-- ==== Sys2Proof/Word.lean ====
section
/-! DEFINITION. The word types of the block and nothing else. Every quantity is unsigned, and bit 0 of a word is its
least significant bit (00_scope.md section 4, 20_memory.md R43). -/

namespace Sys2Proof

/-- A byte, 8 bits, unsigned (00_scope.md section 4). -/
abbrev Byte := BitVec 8

/-- A 16-bit field of a vendor request: `value` or `index` (20_memory.md R44). -/
abbrev Half := BitVec 16

end Sys2Proof
end

