-- ==== Sys2Proof/Config.lean ====
section
/-! DEFINITION. What an implementation fixes: the parameters of 00_scope.md section 3. The two that the spec leaves OPEN
(the identity) are constants with no body; the other four are plain data that a state carries and no step writes. Their
values stand in Machine/Constants.lean. -/

namespace Sys2Proof

/-- The substitution table of the checksum engine: exactly 256 bytes (00_scope.md R8, 20_memory.md R36, R39 a). -/
abbrev CrcTable := Vector Byte 256

/-- The six bytes of the serial number; element 0 is the first byte as stored (10_state.md R15). -/
abbrev Serial := Vector Byte 6

/-- `SEARCH_PAYLOAD_MODE`: what a data poll returns on search completion (00_scope.md R11). -/
inductive PayloadMode where
  /-- the fixed eight bytes of 30_encoding.md R69 -/
  | placeholder
  /-- the ROM code of the device (41_rom_code.md R87) -/
  | rom
  deriving DecidableEq, Repr

/-- The parameters of 00_scope.md R8 to R11, fixed for the life of the block (10_state.md R32). -/
structure Params where
  /-- `CRC_TABLE` (R8) -/
  crcTable : CrcTable
  /-- `CTL_RESET_CODE` (R9) -/
  ctlResetCode : Half
  /-- `RETAIN_MODE_SLOTS` (R10) -/
  retainModeSlots : Bool
  /-- `SEARCH_PAYLOAD_MODE` (R11) -/
  payloadMode : PayloadMode
  deriving DecidableEq, Repr

/-- `FAMILY`, which the spec leaves OPEN (00_scope.md R7): no proof can see its value.
DESIGN CHOICE, safe: assumption log entry 2. -/
opaque Config.family : Byte

/-- `SERIAL`, which the spec leaves OPEN (00_scope.md R7): no proof can see its value.
DESIGN CHOICE, safe: assumption log entry 2. -/
opaque Config.serial : Serial

end Sys2Proof
end

