-- ==== Sys2Proof/Syntax.lean ====
section
/-! DEFINITION. The operations of the block (30_encoding.md R53): one constructor of `Instr` for each row of
spec/opcode_table.json, the words they arrive in, the tags of the communication class, and the written form. -/

namespace Sys2Proof

/-- The command tag of a communication request, in priority order, and `none` where no mask matches
(30_encoding.md R63, R71). -/
inductive CommTag where
  | searchAccess
  | readRedirect
  | readCrcProt
  | writeEprom
  | writeSram
  | setPath
  | doRelease
  | readStraight
  | blockIo
  | matchAccess
  | byteIo
  | oneWireReset
  | pulse
  | setDuration
  | errorEscape
  | none
  deriving DecidableEq, Repr

/-- The three ports an operation can arrive on (30_encoding.md R54). -/
inductive Port where
  /-- the unit port, format U -/
  | unit
  /-- the control channel, format V -/
  | control
  /-- the poll selector, format P -/
  | poll
  deriving DecidableEq, Repr

/-- An operation word on the port it arrives on: the port fixes the format (30_encoding.md R54, R55, R60, R65). -/
inductive PortWord where
  | unit (w : BitVec 12)
  | control (w : BitVec 40)
  | poll (w : BitVec 1)
  deriving DecidableEq, Repr

/-- The port a word arrives on (30_encoding.md R54). -/
def PortWord.port : PortWord → Port
  | .unit _ => .unit
  | .control _ => .control
  | .poll _ => .poll

/-- The operations, one constructor for each row of spec/opcode_table.json, in the table's order (30_encoding.md R53).
An operand bit that an operation ignores (30_encoding.md R73 b) is carried, so that no bit of a word is lost, and no
meaning reads it. A field whose value the row fixes is not carried. -/
inductive Instr where
  | crcInit (arg : Byte)
  | crcByte (b : Byte)
  | crcRead (arg : Byte)
  /-- `U.RSVD`, unit CRC, op 3 -/
  | uRsvdCrc (arg : Byte)
  | romRead (arg : Byte)
  /-- `U.RSVD`, unit ROM, op 1 to 3 -/
  | uRsvdRom (op : BitVec 2) (arg : Byte)
  | srReset (arg : Byte)
  | srSpue (ign : BitVec 7) (e : Bool)
  | srSpce (ign : BitVec 7) (e : Bool)
  | srSer (arg : Byte)
  /-- `U.RSVD`, unit 3 -/
  | uRsvdUnit (op : BitVec 2) (arg : Byte)
  | ctlReset (index : Half)
  | ctlOther (value index : Half)
  | commSearchAccess (value index : Half)
  | commReadRedirect (value index : Half)
  | commReadCrcProt (value index : Half)
  | commWriteEprom (value index : Half)
  | commWriteSram (value index : Half)
  | commSetPath (value index : Half)
  | commDoRelease (value index : Half)
  | commReadStraight (value index : Half)
  | commBlockIo (value index : Half)
  | commMatchAccess (value index : Half)
  | commByteIo (value index : Half)
  | commOneWireReset (value index : Half)
  | commPulse (value index : Half)
  | commSetDuration (value index : Half)
  | commErrorEscape (value index : Half)
  | commNone (value index : Half)
  | modePulseEn (index : Half)
  | modeSpeedChangeEn (index : Half)
  | modeSpeed (index : Half)
  | modeSpud (index : Half)
  | modePdsrc (index : Half)
  | modePpd (index : Half)
  | modeLowt (index : Half)
  | modeRect (index : Half)
  | modeOther (value index : Half)
  | reqRsvd (cls : Byte) (value index : Half)
  | pollStatus
  | pollData
  deriving DecidableEq, Repr

/-- The mnemonic of an operation (30_encoding.md R53). -/
def Instr.mnemonic : Instr → String
  | .crcInit _ => "CRC.INIT"
  | .crcByte _ => "CRC.BYTE"
  | .crcRead _ => "CRC.READ"
  | .uRsvdCrc _ => "U.RSVD"
  | .romRead _ => "ROM.READ"
  | .uRsvdRom _ _ => "U.RSVD"
  | .srReset _ => "SR.RESET"
  | .srSpue _ _ => "SR.SPUE"
  | .srSpce _ _ => "SR.SPCE"
  | .srSer _ => "SR.SER"
  | .uRsvdUnit _ _ => "U.RSVD"
  | .ctlReset _ => "REQ.CTL.RESET"
  | .ctlOther _ _ => "REQ.CTL.OTHER"
  | .commSearchAccess _ _ => "REQ.COMM.SEARCH_ACCESS"
  | .commReadRedirect _ _ => "REQ.COMM.READ_REDIRECT"
  | .commReadCrcProt _ _ => "REQ.COMM.READ_CRC_PROT"
  | .commWriteEprom _ _ => "REQ.COMM.WRITE_EPROM"
  | .commWriteSram _ _ => "REQ.COMM.WRITE_SRAM"
  | .commSetPath _ _ => "REQ.COMM.SET_PATH"
  | .commDoRelease _ _ => "REQ.COMM.DO_RELEASE"
  | .commReadStraight _ _ => "REQ.COMM.READ_STRAIGHT"
  | .commBlockIo _ _ => "REQ.COMM.BLOCK_IO"
  | .commMatchAccess _ _ => "REQ.COMM.MATCH_ACCESS"
  | .commByteIo _ _ => "REQ.COMM.BYTE_IO"
  | .commOneWireReset _ _ => "REQ.COMM.ONE_WIRE_RESET"
  | .commPulse _ _ => "REQ.COMM.PULSE"
  | .commSetDuration _ _ => "REQ.COMM.SET_DURATION"
  | .commErrorEscape _ _ => "REQ.COMM.ERROR_ESCAPE"
  | .commNone _ _ => "REQ.COMM.NONE"
  | .modePulseEn _ => "REQ.MODE.PULSE_EN"
  | .modeSpeedChangeEn _ => "REQ.MODE.SPEED_CHANGE_EN"
  | .modeSpeed _ => "REQ.MODE.SPEED"
  | .modeSpud _ => "REQ.MODE.SPUD"
  | .modePdsrc _ => "REQ.MODE.PDSRC"
  | .modePpd _ => "REQ.MODE.PPD"
  | .modeLowt _ => "REQ.MODE.LOWT"
  | .modeRect _ => "REQ.MODE.RECT"
  | .modeOther _ _ => "REQ.MODE.OTHER"
  | .reqRsvd _ _ _ => "REQ.RSVD"
  | .pollStatus => "POLL.STATUS"
  | .pollData => "POLL.DATA"

/-- The port an operation arrives on: the port column of 30_encoding.md R53. -/
def Instr.port : Instr → Port
  | .crcInit _ | .crcByte _ | .crcRead _ | .uRsvdCrc _ | .romRead _ | .uRsvdRom _ _ | .srReset _ | .srSpue _ _
  | .srSpce _ _ | .srSer _ | .uRsvdUnit _ _ => .unit
  | .pollStatus | .pollData => .poll
  | .ctlReset _ | .ctlOther _ _ | .commSearchAccess _ _ | .commReadRedirect _ _ | .commReadCrcProt _ _
  | .commWriteEprom _ _ | .commWriteSram _ _ | .commSetPath _ _ | .commDoRelease _ _ | .commReadStraight _ _
  | .commBlockIo _ _ | .commMatchAccess _ _ | .commByteIo _ _ | .commOneWireReset _ _ | .commPulse _ _
  | .commSetDuration _ _ | .commErrorEscape _ _ | .commNone _ _ | .modePulseEn _ | .modeSpeedChangeEn _
  | .modeSpeed _ | .modeSpud _ | .modePdsrc _ | .modePpd _ | .modeLowt _ | .modeRect _ | .modeOther _ _
  | .reqRsvd _ _ _ => .control

/-- An operation as it is written by hand (30_encoding.md R74). -/
inductive Written where
  | crcInit
  | crcByte (b : Byte)
  | crcRead
  | romRead
  | srReset
  | srSpue (e : Bool)
  | srSpce (e : Bool)
  | srSer
  /-- the generic vendor request, all three fields -/
  | req (cls : Byte) (value index : Half)
  | reqCtl (value index : Half)
  | reqComm (value index : Half)
  | reqMode (value index : Half)
  | pollStatus
  | pollData
  deriving DecidableEq, Repr

/-- The pseudo-operations (30_encoding.md R75). -/
inductive Pseudo where
  | crc8 (d : List Byte)
  | reset
  | search
  | pullup (e : Bool)
  | spchg (e : Bool)
  deriving DecidableEq, Repr

end Sys2Proof
end

