-- ==== Sys2Proof/Machine/Constants.lean ====
section
/-! DEFINITION. The constants the spec prints: the checksum table, the values of the four parameters, the baseline of the
status register, the trailer, the placeholder payload, and the masks and codes of the communication class. -/

namespace Sys2Proof.Machine

/-- Rows 0x to 3x of the table of 20_memory.md R37. -/
def dowRows0 : List Byte :=
  [0x00, 0x5E, 0xBC, 0xE2, 0x61, 0x3F, 0xDD, 0x83, 0xC2, 0x9C, 0x7E, 0x20, 0xA3, 0xFD, 0x1F, 0x41] ++
  [0x9D, 0xC3, 0x21, 0x7F, 0xFC, 0xA2, 0x40, 0x1E, 0x5F, 0x01, 0xE3, 0xBD, 0x3E, 0x60, 0x82, 0xDC] ++
  [0x23, 0x7D, 0x9F, 0xC1, 0x42, 0x1C, 0xFE, 0xA0, 0xE1, 0xBF, 0x5D, 0x03, 0x80, 0xDE, 0x3C, 0x62] ++
  [0xBE, 0xE0, 0x02, 0x5C, 0xDF, 0x81, 0x63, 0x3D, 0x7C, 0x22, 0xC0, 0x9E, 0x1D, 0x43, 0xA1, 0xFF]

/-- Rows 4x to 7x of the table of 20_memory.md R37. -/
def dowRows4 : List Byte :=
  [0x46, 0x18, 0xFA, 0xA4, 0x27, 0x79, 0x9B, 0xC5, 0x84, 0xDA, 0x38, 0x66, 0xE5, 0xBB, 0x59, 0x07] ++
  [0xDB, 0x85, 0x67, 0x39, 0xBA, 0xE4, 0x06, 0x58, 0x19, 0x47, 0xA5, 0xFB, 0x78, 0x26, 0xC4, 0x9A] ++
  [0x65, 0x3B, 0xD9, 0x87, 0x04, 0x5A, 0xB8, 0xE6, 0xA7, 0xF9, 0x1B, 0x45, 0xC6, 0x98, 0x7A, 0x24] ++
  [0xF8, 0xA6, 0x44, 0x1A, 0x99, 0xC7, 0x25, 0x7B, 0x3A, 0x64, 0x86, 0xD8, 0x5B, 0x05, 0xE7, 0xB9]

/-- Rows 8x to Bx of the table of 20_memory.md R37. -/
def dowRows8 : List Byte :=
  [0x8C, 0xD2, 0x30, 0x6E, 0xED, 0xB3, 0x51, 0x0F, 0x4E, 0x10, 0xF2, 0xAC, 0x2F, 0x71, 0x93, 0xCD] ++
  [0x11, 0x4F, 0xAD, 0xF3, 0x70, 0x2E, 0xCC, 0x92, 0xD3, 0x8D, 0x6F, 0x31, 0xB2, 0xEC, 0x0E, 0x50] ++
  [0xAF, 0xF1, 0x13, 0x4D, 0xCE, 0x90, 0x72, 0x2C, 0x6D, 0x33, 0xD1, 0x8F, 0x0C, 0x52, 0xB0, 0xEE] ++
  [0x32, 0x6C, 0x8E, 0xD0, 0x53, 0x0D, 0xEF, 0xB1, 0xF0, 0xAE, 0x4C, 0x12, 0x91, 0xCF, 0x2D, 0x73]

/-- Rows Cx to Fx of the table of 20_memory.md R37. -/
def dowRowsC : List Byte :=
  [0xCA, 0x94, 0x76, 0x28, 0xAB, 0xF5, 0x17, 0x49, 0x08, 0x56, 0xB4, 0xEA, 0x69, 0x37, 0xD5, 0x8B] ++
  [0x57, 0x09, 0xEB, 0xB5, 0x36, 0x68, 0x8A, 0xD4, 0x95, 0xCB, 0x29, 0x77, 0xF4, 0xAA, 0x48, 0x16] ++
  [0xE9, 0xB7, 0x55, 0x0B, 0x88, 0xD6, 0x34, 0x6A, 0x2B, 0x75, 0x97, 0xC9, 0x4A, 0x14, 0xF6, 0xA8] ++
  [0x74, 0x2A, 0xC8, 0x96, 0x15, 0x4B, 0xA9, 0xF7, 0xB6, 0xE8, 0x0A, 0x54, 0xD7, 0x89, 0x6B, 0x35]

/-- The four groups of rows hold 256 bytes (20_memory.md R39 a). -/
theorem dowRows_length : (dowRows0 ++ dowRows4 ++ dowRows8 ++ dowRowsC).length = 256 := by
  have h0 : dowRows0.length = 64 := by decide
  have h4 : dowRows4.length = 64 := by decide
  have h8 : dowRows8.length = 64 := by decide
  have hC : dowRowsC.length = 64 := by decide
  rw [List.length_append, List.length_append, List.length_append, h0, h4, h8, hC]

/-- The Dow CRC table of 20_memory.md R37. The spec has the 255 entries other than entry 0 from general knowledge (G1).
UNVERIFIED (supplied by the spec, not established by its source), unsafe: assumption log entry 3. -/
def dowTable : CrcTable :=
  ⟨⟨dowRows0 ++ dowRows4 ++ dowRows8 ++ dowRowsC⟩, dowRows_length⟩

/-- The values the spec fixes for the four parameters (00_scope.md section 3, R8 to R11). `ctlResetCode` is from general
knowledge (G3). UNVERIFIED (supplied by the spec, not established by its source), unsafe: assumption log entries 3 and 4.
For the last two both variants are modelled: entry 5. -/
def standardParams : Params :=
  { crcTable := dowTable, ctlResetCode := 0x0000, retainModeSlots := false, payloadMode := .placeholder }

/-- The baseline of `SR.SPEED`: Regular (42_status_register.md R96). -/
def baseSpeed : Byte := 0x00
/-- The baseline of `SR.SPUD` (R96). -/
def baseSpud : Byte := 0x20
/-- The baseline of `SR.PDSRC` (R96). -/
def basePdsrc : Byte := 0x05
/-- The baseline of `SR.LOWT` (R96). -/
def baseLowt : Byte := 0x04
/-- The baseline of `SR.RECT` (R96). -/
def baseRect : Byte := 0x04

/-- The constant 9-byte `TRAILER` of a status poll (30_encoding.md R68). -/
def trailer : List Byte := [0x20, 0x00, 0x00, 0x00, 0x00, 0x08, 0x00, 0x00, 0xA5]

/-- `PLACEHOLDER_PAYLOAD`, the fixed eight bytes of a data poll (30_encoding.md R69). -/
def placeholderPayload : List Byte := [0x00, 0x01, 0x02, 0x03, 0x04, 0x05, 0x06, 0x07]

/-- The fifteen command masks in the priority order in which they are tested (30_encoding.md R63, 90_conflicts.md C4). -/
def commMasks : List (CommTag × Half) :=
  [(.searchAccess, 0x00F4), (.readRedirect, 0x21E4), (.readCrcProt, 0x00D4), (.writeEprom, 0x00C4)] ++
  [(.writeSram, 0x00B2), (.setPath, 0x00A2), (.doRelease, 0x6092), (.readStraight, 0x0080)] ++
  [(.blockIo, 0x0074), (.matchAccess, 0x0064), (.byteIo, 0x0052), (.oneWireReset, 0x0042)] ++
  [(.pulse, 0x0030), (.setDuration, 0x0012), (.errorEscape, 0x0601)]

/-- The 4-bit code of a tag on the output `cmd_tag`: priority less one, and 15 for `none` (30_encoding.md R71). -/
def tagCode : CommTag → BitVec 4
  | .searchAccess => 0
  | .readRedirect => 1
  | .readCrcProt => 2
  | .writeEprom => 3
  | .writeSram => 4
  | .setPath => 5
  | .doRelease => 6
  | .readStraight => 7
  | .blockIo => 8
  | .matchAccess => 9
  | .byteIo => 10
  | .oneWireReset => 11
  | .pulse => 12
  | .setDuration => 13
  | .errorEscape => 14
  | .none => 15

end Sys2Proof.Machine
end

