-- ==== Sys2Proof/Machine/Operands.lean ====
section
/-! DEFINITION. Operand assembly: every derivation of 30_encoding.md R66, the fields of the three formats, the words built
from fields, and the mask test of the communication class. -/

namespace Sys2Proof.Machine

/-- `unit`, bits 11:10 of a format U word (30_encoding.md R55). -/
def unitField (w : BitVec 12) : BitVec 2 := w.extractLsb' 10 2
/-- `op`, bits 9:8 of a format U word (R55). -/
def opField (w : BitVec 12) : BitVec 2 := w.extractLsb' 8 2
/-- `arg`, bits 7:0 of a format U word (R55, R66 a). -/
def argField (w : BitVec 12) : Byte := w.extractLsb' 0 8
/-- `arg[0]`, the new flag of `SR.SPUE` and `SR.SPCE` (R59, R66 b). -/
def flagBit (arg : Byte) : Bool := arg.getLsbD 0
/-- `arg[7:1]`, which `SR.SPUE` and `SR.SPCE` ignore (R59). -/
def flagRest (arg : Byte) : BitVec 7 := arg.extractLsb' 1 7

/-- A format U word from its fields (R55). -/
def packUnit (u op : BitVec 2) (arg : Byte) : BitVec 12 := u ++ op ++ arg
/-- The operand byte of `SR.SPUE` and `SR.SPCE` from its parts (R59). -/
def packFlag (ign : BitVec 7) (e : Bool) : Byte := ign ++ BitVec.ofBool e

/-- `class`, bits 39:32 of a format V word (R60, R66 c). -/
def classField (w : BitVec 40) : Byte := w.extractLsb' 32 8
/-- `value`, bits 31:16 of a format V word (R60, R66 c). -/
def valueField (w : BitVec 40) : Half := w.extractLsb' 16 16
/-- `index`, bits 15:0 of a format V word (R60, R66 c). -/
def indexField (w : BitVec 40) : Half := w.extractLsb' 0 16

/-- A format V word from its fields (R60). -/
def packRequest (cls : Byte) (value index : Half) : BitVec 40 := cls ++ value ++ index

/-- A mask `m` matches when `(value & m) == m`, over all 16 bits (R63, R66 g). -/
def maskMatches (value m : Half) : Bool := value &&& m == m

/-- The tag of the first mask of a list that `value` matches, else `none` (43_command_shell.md R110). -/
def firstTag : List (CommTag × Half) → Half → CommTag
  | [], _ => .none
  | (t, m) :: rest, value => if maskMatches value m then t else firstTag rest value

/-- `commTag(value)`: the tag of the first matching mask in priority order, else `none` (43_command_shell.md R110). -/
def commTag (value : Half) : CommTag := firstTag commMasks value

/-- `index[7:0]`, what a retained mode slot stores (R66 f). -/
def lowByte (index : Half) : Byte := index.extractLsb' 0 8

end Sys2Proof.Machine
end

