-- ==== Sys2Proof/WellFormed.lean ====
section
/-! DEFINITION. Which terms of `Instr` some word stands for: the conditions under which 30_encoding.md R55 to R64 select
the row of each constructor, given the code of the reset command. -/

namespace Sys2Proof

open Sys2Proof.Machine

/-- The row's own condition on the operands it carries; `code` is `CTL_RESET_CODE` (30_encoding.md R58, R61 to R64). -/
def Instr.wellFormed (code : Half) : Instr → Bool
  | .crcInit _ => true
  | .crcByte _ => true
  | .crcRead _ => true
  | .uRsvdCrc _ => true
  | .romRead _ => true
  | .uRsvdRom op _ => op != 0
  | .srReset _ => true
  | .srSpue _ _ => true
  | .srSpce _ _ => true
  | .srSer _ => true
  | .uRsvdUnit _ _ => true
  | .ctlReset _ => true
  | .ctlOther value _ => value != code
  | .commSearchAccess value _ => commTag value == .searchAccess
  | .commReadRedirect value _ => commTag value == .readRedirect
  | .commReadCrcProt value _ => commTag value == .readCrcProt
  | .commWriteEprom value _ => commTag value == .writeEprom
  | .commWriteSram value _ => commTag value == .writeSram
  | .commSetPath value _ => commTag value == .setPath
  | .commDoRelease value _ => commTag value == .doRelease
  | .commReadStraight value _ => commTag value == .readStraight
  | .commBlockIo value _ => commTag value == .blockIo
  | .commMatchAccess value _ => commTag value == .matchAccess
  | .commByteIo value _ => commTag value == .byteIo
  | .commOneWireReset value _ => commTag value == .oneWireReset
  | .commPulse value _ => commTag value == .pulse
  | .commSetDuration value _ => commTag value == .setDuration
  | .commErrorEscape value _ => commTag value == .errorEscape
  | .commNone value _ => commTag value == .none
  | .modePulseEn _ => true
  | .modeSpeedChangeEn _ => true
  | .modeSpeed _ => true
  | .modeSpud _ => true
  | .modePdsrc _ => true
  | .modePpd _ => true
  | .modeLowt _ => true
  | .modeRect _ => true
  | .modeOther value _ => decide (0x0008 ≤ value.toNat)
  | .reqRsvd cls _ _ => decide (0x03 ≤ cls.toNat)
  | .pollStatus => true
  | .pollData => true

end Sys2Proof
end

