-- ==== Sys2Proof/Decode.lean ====
section
/-! DEFINITION. The decoder, total on every word of every format (30_encoding.md R72); the encoder; the opcode table as
data; and the numbering of a word's bits that the host uses. -/

namespace Sys2Proof

open Sys2Proof.Machine

/-- Format U: look at `unit`, then `op` (30_encoding.md R56 to R59, R72). -/
def decodeUnit (w : BitVec 12) : Instr :=
  if unitField w = 0b00 then
    if opField w = 0b00 then .crcInit (argField w)
    else if opField w = 0b01 then .crcByte (argField w)
    else if opField w = 0b10 then .crcRead (argField w)
    else .uRsvdCrc (argField w)
  else if unitField w = 0b01 then
    if opField w = 0b00 then .romRead (argField w)
    else .uRsvdRom (opField w) (argField w)
  else if unitField w = 0b10 then
    if opField w = 0b00 then .srReset (argField w)
    else if opField w = 0b01 then .srSpue (flagRest (argField w)) (flagBit (argField w))
    else if opField w = 0b10 then .srSpce (flagRest (argField w)) (flagBit (argField w))
    else .srSer (argField w)
  else .uRsvdUnit (opField w) (argField w)

/-- Class 1: the row of the selected tag (30_encoding.md R63, R72). -/
def decodeComm (value index : Half) : Instr :=
  match commTag value with
  | .searchAccess => .commSearchAccess value index
  | .readRedirect => .commReadRedirect value index
  | .readCrcProt => .commReadCrcProt value index
  | .writeEprom => .commWriteEprom value index
  | .writeSram => .commWriteSram value index
  | .setPath => .commSetPath value index
  | .doRelease => .commDoRelease value index
  | .readStraight => .commReadStraight value index
  | .blockIo => .commBlockIo value index
  | .matchAccess => .commMatchAccess value index
  | .byteIo => .commByteIo value index
  | .oneWireReset => .commOneWireReset value index
  | .pulse => .commPulse value index
  | .setDuration => .commSetDuration value index
  | .errorEscape => .commErrorEscape value index
  | .none => .commNone value index

/-- Class 2: the slot, by equality over all 16 bits of `value` (30_encoding.md R64, R72). -/
def decodeMode (value index : Half) : Instr :=
  if value = 0x0000 then .modePulseEn index
  else if value = 0x0001 then .modeSpeedChangeEn index
  else if value = 0x0002 then .modeSpeed index
  else if value = 0x0003 then .modeSpud index
  else if value = 0x0004 then .modePdsrc index
  else if value = 0x0005 then .modePpd index
  else if value = 0x0006 then .modeLowt index
  else if value = 0x0007 then .modeRect index
  else .modeOther value index

/-- The handler of a class byte (30_encoding.md R61, 43_command_shell.md R105). -/
def decodeRequest (code : Half) (cls : Byte) (value index : Half) : Instr :=
  if cls = 0x00 then
    if value = code then .ctlReset index else .ctlOther value index
  else if cls = 0x01 then decodeComm value index
  else if cls = 0x02 then decodeMode value index
  else .reqRsvd cls value index

/-- The operation a word selects: every word of each format selects exactly one row (30_encoding.md R72).
`code` is `CTL_RESET_CODE`. -/
def decode (code : Half) : PortWord → Instr
  | .unit w => decodeUnit w
  | .control w => decodeRequest code (classField w) (valueField w) (indexField w)
  | .poll w => if w = 0 then .pollStatus else .pollData

/-- The word of an operation (30_encoding.md R55 to R65). -/
def encode (code : Half) : Instr → PortWord
  | .crcInit arg => .unit (packUnit 0b00 0b00 arg)
  | .crcByte b => .unit (packUnit 0b00 0b01 b)
  | .crcRead arg => .unit (packUnit 0b00 0b10 arg)
  | .uRsvdCrc arg => .unit (packUnit 0b00 0b11 arg)
  | .romRead arg => .unit (packUnit 0b01 0b00 arg)
  | .uRsvdRom op arg => .unit (packUnit 0b01 op arg)
  | .srReset arg => .unit (packUnit 0b10 0b00 arg)
  | .srSpue ign e => .unit (packUnit 0b10 0b01 (packFlag ign e))
  | .srSpce ign e => .unit (packUnit 0b10 0b10 (packFlag ign e))
  | .srSer arg => .unit (packUnit 0b10 0b11 arg)
  | .uRsvdUnit op arg => .unit (packUnit 0b11 op arg)
  | .ctlReset index => .control (packRequest 0x00 code index)
  | .ctlOther value index => .control (packRequest 0x00 value index)
  | .commSearchAccess value index => .control (packRequest 0x01 value index)
  | .commReadRedirect value index => .control (packRequest 0x01 value index)
  | .commReadCrcProt value index => .control (packRequest 0x01 value index)
  | .commWriteEprom value index => .control (packRequest 0x01 value index)
  | .commWriteSram value index => .control (packRequest 0x01 value index)
  | .commSetPath value index => .control (packRequest 0x01 value index)
  | .commDoRelease value index => .control (packRequest 0x01 value index)
  | .commReadStraight value index => .control (packRequest 0x01 value index)
  | .commBlockIo value index => .control (packRequest 0x01 value index)
  | .commMatchAccess value index => .control (packRequest 0x01 value index)
  | .commByteIo value index => .control (packRequest 0x01 value index)
  | .commOneWireReset value index => .control (packRequest 0x01 value index)
  | .commPulse value index => .control (packRequest 0x01 value index)
  | .commSetDuration value index => .control (packRequest 0x01 value index)
  | .commErrorEscape value index => .control (packRequest 0x01 value index)
  | .commNone value index => .control (packRequest 0x01 value index)
  | .modePulseEn index => .control (packRequest 0x02 0x0000 index)
  | .modeSpeedChangeEn index => .control (packRequest 0x02 0x0001 index)
  | .modeSpeed index => .control (packRequest 0x02 0x0002 index)
  | .modeSpud index => .control (packRequest 0x02 0x0003 index)
  | .modePdsrc index => .control (packRequest 0x02 0x0004 index)
  | .modePpd index => .control (packRequest 0x02 0x0005 index)
  | .modeLowt index => .control (packRequest 0x02 0x0006 index)
  | .modeRect index => .control (packRequest 0x02 0x0007 index)
  | .modeOther value index => .control (packRequest 0x02 value index)
  | .reqRsvd cls value index => .control (packRequest cls value index)
  | .pollStatus => .poll 0
  | .pollData => .poll 1

/-- One row of spec/opcode_table.json: its match, its mask and its mnemonic. -/
structure OpcodeRow (n : Nat) where
  pat : BitVec n
  mask : BitVec n
  name : String
  deriving DecidableEq, Repr

/-- The rows of format U, in the table's order. -/
def unitRows : List (OpcodeRow 12) :=
  [⟨0x000, 0xF00, "CRC.INIT"⟩, ⟨0x100, 0xF00, "CRC.BYTE"⟩, ⟨0x200, 0xF00, "CRC.READ"⟩, ⟨0x300, 0xF00, "U.RSVD"⟩,
   ⟨0x400, 0xF00, "ROM.READ"⟩, ⟨0x400, 0xC00, "U.RSVD"⟩] ++
  [⟨0x800, 0xF00, "SR.RESET"⟩, ⟨0x900, 0xF00, "SR.SPUE"⟩, ⟨0xA00, 0xF00, "SR.SPCE"⟩, ⟨0xB00, 0xF00, "SR.SER"⟩,
   ⟨0xC00, 0xC00, "U.RSVD"⟩]

/-- The rows of format V, in the table's order; the first is printed for the default reset code. -/
def controlRows : List (OpcodeRow 40) :=
  [⟨0x0000000000, 0xFFFFFF0000, "REQ.CTL.RESET"⟩, ⟨0x0000000000, 0xFF00000000, "REQ.CTL.OTHER"⟩] ++
  [⟨0x0100F40000, 0xFF00F40000, "REQ.COMM.SEARCH_ACCESS"⟩, ⟨0x0121E40000, 0xFF21E40000, "REQ.COMM.READ_REDIRECT"⟩,
   ⟨0x0100D40000, 0xFF00D40000, "REQ.COMM.READ_CRC_PROT"⟩, ⟨0x0100C40000, 0xFF00C40000, "REQ.COMM.WRITE_EPROM"⟩,
   ⟨0x0100B20000, 0xFF00B20000, "REQ.COMM.WRITE_SRAM"⟩, ⟨0x0100A20000, 0xFF00A20000, "REQ.COMM.SET_PATH"⟩,
   ⟨0x0160920000, 0xFF60920000, "REQ.COMM.DO_RELEASE"⟩, ⟨0x0100800000, 0xFF00800000, "REQ.COMM.READ_STRAIGHT"⟩] ++
  [⟨0x0100740000, 0xFF00740000, "REQ.COMM.BLOCK_IO"⟩, ⟨0x0100640000, 0xFF00640000, "REQ.COMM.MATCH_ACCESS"⟩,
   ⟨0x0100520000, 0xFF00520000, "REQ.COMM.BYTE_IO"⟩, ⟨0x0100420000, 0xFF00420000, "REQ.COMM.ONE_WIRE_RESET"⟩,
   ⟨0x0100300000, 0xFF00300000, "REQ.COMM.PULSE"⟩, ⟨0x0100120000, 0xFF00120000, "REQ.COMM.SET_DURATION"⟩,
   ⟨0x0106010000, 0xFF06010000, "REQ.COMM.ERROR_ESCAPE"⟩, ⟨0x0100000000, 0xFF00000000, "REQ.COMM.NONE"⟩] ++
  [⟨0x0200000000, 0xFFFFFF0000, "REQ.MODE.PULSE_EN"⟩, ⟨0x0200010000, 0xFFFFFF0000, "REQ.MODE.SPEED_CHANGE_EN"⟩,
   ⟨0x0200020000, 0xFFFFFF0000, "REQ.MODE.SPEED"⟩, ⟨0x0200030000, 0xFFFFFF0000, "REQ.MODE.SPUD"⟩,
   ⟨0x0200040000, 0xFFFFFF0000, "REQ.MODE.PDSRC"⟩, ⟨0x0200050000, 0xFFFFFF0000, "REQ.MODE.PPD"⟩,
   ⟨0x0200060000, 0xFFFFFF0000, "REQ.MODE.LOWT"⟩, ⟨0x0200070000, 0xFFFFFF0000, "REQ.MODE.RECT"⟩,
   ⟨0x0200000000, 0xFF00000000, "REQ.MODE.OTHER"⟩] ++
  [⟨0x0000000000, 0x0000000000, "REQ.RSVD"⟩]

/-- The rows of format P, in the table's order. -/
def pollRows : List (OpcodeRow 1) := [⟨0, 1, "POLL.STATUS"⟩, ⟨1, 1, "POLL.DATA"⟩]

/-- The mnemonic of the first row with `(word & mask) == match` (30_encoding.md R72). -/
def firstRow {n : Nat} : List (OpcodeRow n) → BitVec n → Option String
  | [], _ => none
  | r :: rest, w => if w &&& r.mask = r.pat then some r.name else firstRow rest w

/-- The mnemonic the opcode table gives a word, at the table's default reset code (30_encoding.md R72). -/
def tableMnemonic : PortWord → Option String
  | .unit w => firstRow unitRows w
  | .control w => firstRow controlRows w
  | .poll w => firstRow pollRows w

/-- Why a number of bits is no operation word. -/
inductive DecodeError where
  /-- no port has a format that fills so many bytes -/
  | noSuchFormat
  /-- a bit is set above the format's width, where the port has no line -/
  | bitAboveFormat
  deriving DecidableEq, Repr

/-- The word whose bits are `w`, in `nbits` bits, a format's width rounded up to whole bytes (12 bits in 16, 40 in 40, 1 in
8); the exact widths are taken as well. DESIGN CHOICE, safe: assumption log entry 14. -/
def portWordOf (nbits w : Nat) : Except DecodeError PortWord :=
  if nbits = 16 ∨ nbits = 12 then
    if w < 2 ^ 12 then .ok (.unit (BitVec.ofNat 12 w)) else .error .bitAboveFormat
  else if nbits = 40 then
    if w < 2 ^ 40 then .ok (.control (BitVec.ofNat 40 w)) else .error .bitAboveFormat
  else if nbits = 8 ∨ nbits = 1 then
    if w < 2 ^ 1 then .ok (.poll (BitVec.ofNat 1 w)) else .error .bitAboveFormat
  else .error .noSuchFormat

/-- What the decoder reads from the bits `w` as spec/opcode_table.json numbers them, at the table's default reset code. -/
def decodeTableWord (nbits w : Nat) : Option Instr :=
  match portWordOf nbits w with
  | .ok pw => some (decode standardParams.ctlResetCode pw)
  | .error _ => none

end Sys2Proof
end

