-- ==== Sys2Proof/Machine/State.lean ====
section
/-! DEFINITION. The architectural state of 10_state.md R12, the model's own input and output fields, the outcome reasons,
and the state after power-on. -/

namespace Sys2Proof.Machine

/-- The bridge status register `SR`: seven fields (10_state.md R18, R20 to R26). -/
structure StatusReg where
  /-- strong pull-up enable (R20) -/
  spue : Bool
  /-- strong pull-up (speed) change enable (R21) -/
  spce : Bool
  /-- 1-Wire speed, a raw byte (R22) -/
  speed : Byte
  /-- strong pull-up duration (R23) -/
  spud : Byte
  /-- pull-down slew rate (R24) -/
  pdsrc : Byte
  /-- write-1 low time (R25) -/
  lowt : Byte
  /-- DSOW0 recovery time (R26) -/
  rect : Byte
  deriving DecidableEq, Repr

/-- Where the bytes of a result go (20_memory.md R40). -/
inductive Channel where
  /-- the unit port -/
  | unit
  /-- the status channel -/
  | status
  /-- the data channel -/
  | data
  deriving DecidableEq, Repr

/-- The result of an operation (00_scope.md section 4): nothing, one empty acknowledgement on the control channel, or a
byte sequence, element 0 first (20_memory.md R42). -/
inductive Result where
  | none
  | ack
  | bytes (ch : Channel) (data : List Byte)
  deriving DecidableEq, Repr

/-- The state: the items of 10_state.md R12, and after them the model's own fields, which are no state of the block. -/
structure State where
  /-- `CRCACC`, the running accumulator (R14) -/
  crcAcc : Byte
  /-- `FAMILY` (R15) -/
  family : Byte
  /-- `SERIAL[0..5]` (R15) -/
  serial : Serial
  /-- `SR` (R18) -/
  sr : StatusReg
  /-- `READY` (R27) -/
  ready : Bool
  /-- `SEARCHPENDING` (R28) -/
  searchPending : Bool
  /-- the parameters the step takes (R32). DESIGN CHOICE, safe: assumption log entry 1 -/
  params : Params
  /-- the words the host is going to present, in arrival order (R32, 20_memory.md R50).
  DESIGN CHOICE, safe: assumption log entry 6 -/
  ops : List PortWord
  /-- the result of the latest operation. DESIGN CHOICE, safe: assumption log entry 7 -/
  out : Result
  /-- the debug output `cmd_tag` of the latest operation, absent unless that was a communication request
  (30_encoding.md R71). DESIGN CHOICE, unsafe for a claim that it is absent: assumption log entry 7 -/
  cmdTag : Option (BitVec 4)
  deriving DecidableEq, Repr

/-- The reasons a step can fault: none, since the set of exceptions of the block is empty (60_exceptions.md R142, R155).
Nobody raises one. -/
inductive Fault where
  deriving DecidableEq, Repr

/-- The reasons a step can refuse: the refusal set is empty for the operations of the block (60_exceptions.md R155). -/
inductive Refusal where
  /-- An operation that has no meaning yet; only an arm of `exec` may raise it, and none does. Safe. -/
  | notModelled (mnemonic : String)
  deriving DecidableEq, Repr

/-- The baseline of the status register (42_status_register.md R96). -/
def StatusReg.baseline : StatusReg :=
  { spue := false, spce := false, speed := baseSpeed, spud := baseSpud, pdsrc := basePdsrc, lowt := baseLowt,
    rect := baseRect }

/-- The state after power-on with the given parameters and identity (10_state.md R33, 70_reset_and_hazards.md R156). -/
def State.powerOn (p : Params) (family : Byte) (serial : Serial) : State :=
  { crcAcc := 0x00, family := family, serial := serial, sr := StatusReg.baseline, ready := false,
    searchPending := false, params := p, ops := [], out := .none, cmdTag := none }

/-- The state after power-on with the spec's values of the parameters and the OPEN identity. -/
def State.reset : State := State.powerOn standardParams Config.family Config.serial

end Sys2Proof.Machine
end

