-- ==== Sys2Proof/Machine/Ops.lean ====
section
/-! DEFINITION. The named operations of the block: the table read, the checksum, the ROM code, the serializer, the writes of
each item of state, the result of an operation, and the presentation of the next word. There is no memory to read or write
(20_memory.md R35). There is no exception to take and none to return from (60_exceptions.md R142, R147, R148). -/

namespace Sys2Proof.Machine

/-- `TableRead(i)`: the entry of the table at `i`, which is always in range (20_memory.md R36). -/
def tableRead (t : CrcTable) (i : Byte) : Byte := t[i.toNat]'(by have := i.isLt; omega)

/-- One iteration of the checksum: exclusive-or, then the table (40_crc8.md R76). -/
def crcStep (t : CrcTable) (acc b : Byte) : Byte := tableRead t (acc ^^^ b)

/-- `crc8(d)`: from accumulator 0x00, the bytes left to right (40_crc8.md R77). -/
def crc8 (t : CrcTable) (d : List Byte) : Byte := d.foldl (crcStep t) 0x00

/-- `romOf(f, s)`: the checksum of family then serial, the serial, the family (41_rom_code.md R87, R88). -/
def romOf (t : CrcTable) (f : Byte) (s : Serial) : List Byte := [crc8 t (f :: s.toList)] ++ s.toList ++ [f]

/-- `b2n` at the width of a byte (00_scope.md section 4). -/
def b2n (c : Bool) : Byte := if c then 0x01 else 0x00

/-- `serialize(SR)`: the 8-byte status report (42_status_register.md R99, 30_encoding.md R67). -/
def serialize (sr : StatusReg) : List Byte :=
  [(b2n sr.spce <<< 2) + b2n sr.spue, sr.speed, sr.spud, 0x00, sr.pdsrc, sr.lowt, sr.rect, 0x00]

/-- `PAYLOAD` of a data poll (43_command_shell.md R139). -/
def payload (s : State) : List Byte :=
  match s.params.payloadMode with
  | .placeholder => placeholderPayload
  | .rom => romOf s.params.crcTable s.family s.serial

/-- `CRCACC <- v`. -/
def State.setCrcAcc (s : State) (v : Byte) : State := { s with crcAcc := v }

/-- `SR <- v`, all the fields a write changes in one step (10_state.md R19). -/
def State.setSr (s : State) (v : StatusReg) : State := { s with sr := v }

/-- `READY <- v`. -/
def State.setReady (s : State) (v : Bool) : State := { s with ready := v }

/-- `SEARCHPENDING <- v`. -/
def State.setSearchPending (s : State) (v : Bool) : State := { s with searchPending := v }

/-- `out <- r` of an operation that drives no command tag (00_scope.md section 4). -/
def State.answer (s : State) (r : Result) : State := { s with out := r, cmdTag := none }

/-- `out <- ack` of a communication request, whose tag is driven on `cmd_tag` (30_encoding.md R71). -/
def State.answerTagged (s : State) (t : CommTag) : State := { s with out := .ack, cmdTag := some (tagCode t) }

/-- The eight writes of `reset()`: the baseline into `SR`, and `READY <- 1` (42_status_register.md R96). `SEARCHPENDING` is
not written (90_conflicts.md C3). -/
def State.resetBridge (s : State) : State := (s.setSr StatusReg.baseline).setReady true

/-- `setStrongPullupEnable`: `SR.SPUE <- e` and no other field (42_status_register.md R97). -/
def State.setSpue (s : State) (e : Bool) : State := s.setSr { s.sr with spue := e }

/-- `setStrongPullupChangeEnable`: `SR.SPCE <- e` and no other field (42_status_register.md R98). -/
def State.setSpce (s : State) (e : Bool) : State := s.setSr { s.sr with spce := e }

/-- A mode slot's write: `v` into `SR` if `RETAIN_MODE_SLOTS`, else nothing (43_command_shell.md R130 to R135). -/
def State.retain (s : State) (v : StatusReg) : State := if s.params.retainModeSlots then s.setSr v else s

/-- The next word the host presents, and the state with the rest of the words still to come (20_memory.md R50). -/
def fetch (s : State) : Option (PortWord × State) :=
  match s.ops with
  | [] => none
  | w :: rest => some (w, { s with ops := rest })

/-- Nothing is presented: the block is idle and keeps all its state (60_exceptions.md R154). -/
def idle (s : State) : State := s

/-- The host is about to present `w` before what it was going to present (R50). -/
def State.present (s : State) (w : PortWord) : State := { s with ops := w :: s.ops }

end Sys2Proof.Machine
end

