-- ==== Sys2Proof/Machine/Flags.lean ====
section
/-! DEFINITION. The flag computations. The block has no arithmetic condition code (10_state.md, after R28): the four one-bit
items are the two pull-up flags, `READY` and `SEARCHPENDING`. -/

namespace Sys2Proof.Machine

/-- The new `SR.SPUE` of mode slot 0: `index == 0x0002`, over all 16 bits (43_command_shell.md R128, 30_encoding.md R66 d). -/
def pulseFlag (index : Half) : Bool := index == 0x0002

/-- The new `SR.SPCE` of mode slot 1: `index == 0x0001`, over all 16 bits (43_command_shell.md R129, 30_encoding.md R66 e). -/
def speedChangeFlag (index : Half) : Bool := index == 0x0001

/-- The new `SEARCHPENDING` of the search command: set if `READY`, else kept (43_command_shell.md R112). -/
def searchFlag (s : State) : Bool := s.ready || s.searchPending

/-- The condition under which both polls return data (43_command_shell.md R138, R139). -/
def pollHasData (s : State) : Bool := s.ready && s.searchPending

end Sys2Proof.Machine
end

