-- ==== Sys2Proof/Machine/Communication.lean ====
section
/-! DEFINITION. The communication class (43_command_shell.md section 3). Only the search command has an effect; the other
fifteen rows are acknowledged and drive their tag. -/

namespace Sys2Proof.Machine

/-- `REQ.COMM.SEARCH_ACCESS` (R112): ignored, though acknowledged, while `READY = 0`. -/
def execCommSearchAccess (s : State) : Host.Outcome State Fault Refusal :=
  .next ((s.setSearchPending (searchFlag s)).answerTagged .searchAccess)

/-- `REQ.COMM.READ_REDIRECT` (R113). -/
def execCommReadRedirect (s : State) : Host.Outcome State Fault Refusal := .next (s.answerTagged .readRedirect)

/-- `REQ.COMM.READ_CRC_PROT` (R114). -/
def execCommReadCrcProt (s : State) : Host.Outcome State Fault Refusal := .next (s.answerTagged .readCrcProt)

/-- `REQ.COMM.WRITE_EPROM` (R115). -/
def execCommWriteEprom (s : State) : Host.Outcome State Fault Refusal := .next (s.answerTagged .writeEprom)

/-- `REQ.COMM.WRITE_SRAM` (R116). -/
def execCommWriteSram (s : State) : Host.Outcome State Fault Refusal := .next (s.answerTagged .writeSram)

/-- `REQ.COMM.SET_PATH` (R117). -/
def execCommSetPath (s : State) : Host.Outcome State Fault Refusal := .next (s.answerTagged .setPath)

/-- `REQ.COMM.DO_RELEASE` (R118). -/
def execCommDoRelease (s : State) : Host.Outcome State Fault Refusal := .next (s.answerTagged .doRelease)

/-- `REQ.COMM.READ_STRAIGHT` (R119). -/
def execCommReadStraight (s : State) : Host.Outcome State Fault Refusal := .next (s.answerTagged .readStraight)

/-- `REQ.COMM.BLOCK_IO` (R120). -/
def execCommBlockIo (s : State) : Host.Outcome State Fault Refusal := .next (s.answerTagged .blockIo)

/-- `REQ.COMM.MATCH_ACCESS` (R121). -/
def execCommMatchAccess (s : State) : Host.Outcome State Fault Refusal := .next (s.answerTagged .matchAccess)

/-- `REQ.COMM.BYTE_IO` (R122). -/
def execCommByteIo (s : State) : Host.Outcome State Fault Refusal := .next (s.answerTagged .byteIo)

/-- `REQ.COMM.ONE_WIRE_RESET` (R123), the reset of the 1-Wire bus: `SR` and `READY` keep their values. -/
def execCommOneWireReset (s : State) : Host.Outcome State Fault Refusal := .next (s.answerTagged .oneWireReset)

/-- `REQ.COMM.PULSE` (R124): `SR.SPUE` keeps its value. -/
def execCommPulse (s : State) : Host.Outcome State Fault Refusal := .next (s.answerTagged .pulse)

/-- `REQ.COMM.SET_DURATION` (R125): `SR.SPUD` keeps its value. -/
def execCommSetDuration (s : State) : Host.Outcome State Fault Refusal := .next (s.answerTagged .setDuration)

/-- `REQ.COMM.ERROR_ESCAPE` (R126). -/
def execCommErrorEscape (s : State) : Host.Outcome State Fault Refusal := .next (s.answerTagged .errorEscape)

/-- `REQ.COMM.NONE` (R127). -/
def execCommNone (s : State) : Host.Outcome State Fault Refusal := .next (s.answerTagged .none)

end Sys2Proof.Machine
end

