-- ==== Sys2Proof/Machine/Control.lean ====
section
/-! DEFINITION. The control class (43_command_shell.md section 2). -/

namespace Sys2Proof.Machine

/-- `REQ.CTL.RESET` (R108): performs `SR.RESET`, then acknowledges. -/
def execCtlReset (s : State) : Host.Outcome State Fault Refusal :=
  .next (s.resetBridge.answer .ack)

/-- `REQ.CTL.OTHER` (R109): acknowledged, no state read or written. -/
def execCtlOther (s : State) : Host.Outcome State Fault Refusal :=
  .next (s.answer .ack)

end Sys2Proof.Machine
end

