-- ==== Sys2Proof/Machine/Crc.lean ====
section
/-! DEFINITION. Unit CRC (40_crc8.md). -/

namespace Sys2Proof.Machine

/-- `CRC.INIT` (R82). -/
def execCrcInit (s : State) : Host.Outcome State Fault Refusal :=
  .next ((s.setCrcAcc 0x00).answer .none)

/-- `CRC.BYTE b` (R83). -/
def execCrcByte (b : Byte) (s : State) : Host.Outcome State Fault Refusal :=
  .next ((s.setCrcAcc (crcStep s.params.crcTable s.crcAcc b)).answer .none)

/-- `CRC.READ` (R84). -/
def execCrcRead (s : State) : Host.Outcome State Fault Refusal :=
  .next (s.answer (.bytes .unit [s.crcAcc]))

end Sys2Proof.Machine
end

