-- ==== Sys2Proof/Machine/Mode.lean ====
section
/-! DEFINITION. The mode class (43_command_shell.md section 4). `READY` is not consulted. -/

namespace Sys2Proof.Machine

/-- `REQ.MODE.PULSE_EN` (R128). -/
def execModePulseEn (index : Half) (s : State) : Host.Outcome State Fault Refusal :=
  .next ((s.setSpue (pulseFlag index)).answer .ack)

/-- `REQ.MODE.SPEED_CHANGE_EN` (R129). -/
def execModeSpeedChangeEn (index : Half) (s : State) : Host.Outcome State Fault Refusal :=
  .next ((s.setSpce (speedChangeFlag index)).answer .ack)

/-- `REQ.MODE.SPEED` (R130): the stored byte is not checked. -/
def execModeSpeed (index : Half) (s : State) : Host.Outcome State Fault Refusal :=
  .next ((s.retain { s.sr with speed := lowByte index }).answer .ack)

/-- `REQ.MODE.SPUD` (R131). -/
def execModeSpud (index : Half) (s : State) : Host.Outcome State Fault Refusal :=
  .next ((s.retain { s.sr with spud := lowByte index }).answer .ack)

/-- `REQ.MODE.PDSRC` (R132). -/
def execModePdsrc (index : Half) (s : State) : Host.Outcome State Fault Refusal :=
  .next ((s.retain { s.sr with pdsrc := lowByte index }).answer .ack)

/-- `REQ.MODE.PPD` (R133): there is no field for it, retained or not. -/
def execModePpd (s : State) : Host.Outcome State Fault Refusal :=
  .next (s.answer .ack)

/-- `REQ.MODE.LOWT` (R134). -/
def execModeLowt (index : Half) (s : State) : Host.Outcome State Fault Refusal :=
  .next ((s.retain { s.sr with lowt := lowByte index }).answer .ack)

/-- `REQ.MODE.RECT` (R135). -/
def execModeRect (index : Half) (s : State) : Host.Outcome State Fault Refusal :=
  .next ((s.retain { s.sr with rect := lowByte index }).answer .ack)

/-- `REQ.MODE.OTHER` (R136). -/
def execModeOther (s : State) : Host.Outcome State Fault Refusal :=
  .next (s.answer .ack)

end Sys2Proof.Machine
end

