-- ==== Sys2Proof/Machine/Poll.lean ====
section
/-! DEFINITION. The two polls (43_command_shell.md section 6). -/

namespace Sys2Proof.Machine

/-- `POLL.STATUS` (R138): 17 bytes or nothing; it clears no flag. -/
def execPollStatus (s : State) : Host.Outcome State Fault Refusal :=
  .next (s.answer (if pollHasData s then .bytes .status (serialize s.sr ++ trailer) else .none))

/-- `POLL.DATA` (R139): 8 bytes, and the pending search is consumed, or nothing and no change. -/
def execPollData (s : State) : Host.Outcome State Fault Refusal :=
  .next (if pollHasData s then (s.setSearchPending false).answer (.bytes .data (payload s)) else s.answer .none)

end Sys2Proof.Machine
end

