-- ==== Sys2Proof/Machine/Reserved.lean ====
section
/-! DEFINITION. The reserved codes, each a no-op with no acknowledgement: three rows of the unit port and the reserved class
(42_status_register.md R104, 43_command_shell.md R137). -/

namespace Sys2Proof.Machine

/-- `U.RSVD`, unit CRC, op 3 (R104). UNVERIFIED, the choice of the spec (D15), unsafe: assumption log entry 9. -/
def execURsvdCrc (s : State) : Host.Outcome State Fault Refusal := .next (s.answer .none)

/-- `U.RSVD`, unit ROM, op 1 to 3 (R104). UNVERIFIED, the choice of the spec (D15), unsafe: assumption log entry 9. -/
def execURsvdRom (s : State) : Host.Outcome State Fault Refusal := .next (s.answer .none)

/-- `U.RSVD`, unit 3 (R104). UNVERIFIED, the choice of the spec (D15), unsafe: assumption log entry 9. -/
def execURsvdUnit (s : State) : Host.Outcome State Fault Refusal := .next (s.answer .none)

/-- `REQ.RSVD`: the block is not selected (R137). UNVERIFIED, the choice of the spec (D14), unsafe: assumption log entry 9. -/
def execReqRsvd (s : State) : Host.Outcome State Fault Refusal := .next (s.answer .none)

end Sys2Proof.Machine
end

