-- ==== Sys2Proof/Machine/Rom.lean ====
section
/-! DEFINITION. Unit ROM (41_rom_code.md). -/

namespace Sys2Proof.Machine

/-- `ROM.READ`, which neither reads nor writes the accumulator (R93, R94). -/
def execRomRead (s : State) : Host.Outcome State Fault Refusal :=
  .next (s.answer (.bytes .unit (romOf s.params.crcTable s.family s.serial)))

end Sys2Proof.Machine
end

