-- ==== Sys2Proof/Machine/Status.lean ====
section
/-! DEFINITION. Unit SR (42_status_register.md). -/

namespace Sys2Proof.Machine

/-- `SR.RESET` (R96). -/
def execSrReset (s : State) : Host.Outcome State Fault Refusal :=
  .next (s.resetBridge.answer .none)

/-- `SR.SPUE e` (R97). -/
def execSrSpue (e : Bool) (s : State) : Host.Outcome State Fault Refusal :=
  .next ((s.setSpue e).answer .none)

/-- `SR.SPCE e` (R98). -/
def execSrSpce (e : Bool) (s : State) : Host.Outcome State Fault Refusal :=
  .next ((s.setSpce e).answer .none)

/-- `SR.SER` (R99). -/
def execSrSer (s : State) : Host.Outcome State Fault Refusal :=
  .next (s.answer (.bytes .unit (serialize s.sr)))

end Sys2Proof.Machine
end

