-- ==== Sys2Proof/Machine/Dispatch.lean ====
section
/-! DEFINITION. The dispatch: one arm for each constructor of `Instr`, each one call of its meaning. -/

namespace Sys2Proof.Machine

def exec (i : Instr) (s : State) : Host.Outcome State Fault Refusal :=
  match i with
  | .crcInit _ => Sys2Proof.Machine.execCrcInit s
  | .crcByte b => Sys2Proof.Machine.execCrcByte b s
  | .crcRead _ => Sys2Proof.Machine.execCrcRead s
  | .uRsvdCrc _ => Sys2Proof.Machine.execURsvdCrc s
  | .romRead _ => Sys2Proof.Machine.execRomRead s
  | .uRsvdRom _ _ => Sys2Proof.Machine.execURsvdRom s
  | .srReset _ => Sys2Proof.Machine.execSrReset s
  | .srSpue _ e => Sys2Proof.Machine.execSrSpue e s
  | .srSpce _ e => Sys2Proof.Machine.execSrSpce e s
  | .srSer _ => Sys2Proof.Machine.execSrSer s
  | .uRsvdUnit _ _ => Sys2Proof.Machine.execURsvdUnit s
  | .ctlReset _ => Sys2Proof.Machine.execCtlReset s
  | .ctlOther _ _ => Sys2Proof.Machine.execCtlOther s
  | .commSearchAccess _ _ => Sys2Proof.Machine.execCommSearchAccess s
  | .commReadRedirect _ _ => Sys2Proof.Machine.execCommReadRedirect s
  | .commReadCrcProt _ _ => Sys2Proof.Machine.execCommReadCrcProt s
  | .commWriteEprom _ _ => Sys2Proof.Machine.execCommWriteEprom s
  | .commWriteSram _ _ => Sys2Proof.Machine.execCommWriteSram s
  | .commSetPath _ _ => Sys2Proof.Machine.execCommSetPath s
  | .commDoRelease _ _ => Sys2Proof.Machine.execCommDoRelease s
  | .commReadStraight _ _ => Sys2Proof.Machine.execCommReadStraight s
  | .commBlockIo _ _ => Sys2Proof.Machine.execCommBlockIo s
  | .commMatchAccess _ _ => Sys2Proof.Machine.execCommMatchAccess s
  | .commByteIo _ _ => Sys2Proof.Machine.execCommByteIo s
  | .commOneWireReset _ _ => Sys2Proof.Machine.execCommOneWireReset s
  | .commPulse _ _ => Sys2Proof.Machine.execCommPulse s
  | .commSetDuration _ _ => Sys2Proof.Machine.execCommSetDuration s
  | .commErrorEscape _ _ => Sys2Proof.Machine.execCommErrorEscape s
  | .commNone _ _ => Sys2Proof.Machine.execCommNone s
  | .modePulseEn index => Sys2Proof.Machine.execModePulseEn index s
  | .modeSpeedChangeEn index => Sys2Proof.Machine.execModeSpeedChangeEn index s
  | .modeSpeed index => Sys2Proof.Machine.execModeSpeed index s
  | .modeSpud index => Sys2Proof.Machine.execModeSpud index s
  | .modePdsrc index => Sys2Proof.Machine.execModePdsrc index s
  | .modePpd _ => Sys2Proof.Machine.execModePpd s
  | .modeLowt index => Sys2Proof.Machine.execModeLowt index s
  | .modeRect index => Sys2Proof.Machine.execModeRect index s
  | .modeOther _ _ => Sys2Proof.Machine.execModeOther s
  | .reqRsvd _ _ _ => Sys2Proof.Machine.execReqRsvd s
  | .pollStatus => Sys2Proof.Machine.execPollStatus s
  | .pollData => Sys2Proof.Machine.execPollData s

end Sys2Proof.Machine
end

