-- ==== Sys2Proof/Machine/Step.lean ====
section
/-! DEFINITION. One step: the block performs the next operation the host presents (20_memory.md R50, 10_state.md R17). -/

namespace Sys2Proof.Machine

/-- One complete operation (00_scope.md R6): take the next word, decode it, execute it; idle if there is none. -/
def step (s : State) : Host.Outcome State Fault Refusal :=
  match fetch s with
  | some (w, s') => exec (decode s.params.ctlResetCode w) s'
  | none => .next (idle s)

/-- `s` where the next word the host presents has the bits `w`; `s` itself where those bits are no word of a format.
DESIGN CHOICE, safe: assumption log entries 6 and 14. -/
def State.withFetchWord (s : State) (nbits w : Nat) : State :=
  match portWordOf nbits w with
  | .ok pw => s.present pw
  | .error _ => s

end Sys2Proof.Machine
end

