-- ==== Sys2Proof/Machine/Assembler.lean ====
section
/-! DEFINITION. The written form of operations and the pseudo-operations (30_encoding.md R74, R75). -/

namespace Sys2Proof.Machine

/-- The word of a written operation; ignored operand bits are zero (30_encoding.md R74, R55 to R65). -/
def assemble : Written → PortWord
  | .crcInit => .unit (packUnit 0b00 0b00 0x00)
  | .crcByte b => .unit (packUnit 0b00 0b01 b)
  | .crcRead => .unit (packUnit 0b00 0b10 0x00)
  | .romRead => .unit (packUnit 0b01 0b00 0x00)
  | .srReset => .unit (packUnit 0b10 0b00 0x00)
  | .srSpue e => .unit (packUnit 0b10 0b01 (packFlag 0 e))
  | .srSpce e => .unit (packUnit 0b10 0b10 (packFlag 0 e))
  | .srSer => .unit (packUnit 0b10 0b11 0x00)
  | .req cls value index => .control (packRequest cls value index)
  | .reqCtl value index => .control (packRequest 0x00 value index)
  | .reqComm value index => .control (packRequest 0x01 value index)
  | .reqMode value index => .control (packRequest 0x02 value index)
  | .pollStatus => .poll 0
  | .pollData => .poll 1

/-- The expansion of a pseudo-operation; `code` is `CTL_RESET_CODE` (30_encoding.md R75). -/
def expand (code : Half) : Pseudo → List Written
  | .crc8 d => [.crcInit] ++ d.map .crcByte ++ [.crcRead]
  | .reset => [.reqCtl code 0x0000]
  | .search => [.reqComm 0x00F4 0x0000]
  | .pullup e => [.reqMode 0x0000 (if e then 0x0002 else 0x0000)]
  | .spchg e => [.reqMode 0x0001 (if e then 0x0001 else 0x0000)]

/-- A hexadecimal digit. -/
def hexDigit (d : BitVec 4) : Char :=
  (['0', '1', '2', '3', '4', '5', '6', '7', '8', '9', 'A', 'B', 'C', 'D', 'E', 'F'] : List Char).getD d.toNat '0'

/-- The two hexadecimal digits of a byte. -/
def hexDigits (b : Byte) : List Char := [hexDigit (b.extractLsb' 4 4), hexDigit (b.extractLsb' 0 4)]

/-- A byte as a hexadecimal numeral (00_scope.md section 4). -/
def byteText (b : Byte) : String := "0x" ++ String.ofList (hexDigits b)

/-- A 16-bit field as a hexadecimal numeral (00_scope.md section 4). -/
def halfText (h : Half) : String :=
  "0x" ++ String.ofList (hexDigits (h.extractLsb' 8 8) ++ hexDigits (h.extractLsb' 0 8))

/-- The text of a written operation: the mnemonic, then its operands, comma separated (30_encoding.md R74). -/
def writtenText : Written → String
  | .crcInit => "CRC.INIT"
  | .crcByte b => "CRC.BYTE " ++ byteText b
  | .crcRead => "CRC.READ"
  | .romRead => "ROM.READ"
  | .srReset => "SR.RESET"
  | .srSpue e => "SR.SPUE " ++ (if e then "1" else "0")
  | .srSpce e => "SR.SPCE " ++ (if e then "1" else "0")
  | .srSer => "SR.SER"
  | .req cls value index => "REQ " ++ byteText cls ++ ", " ++ halfText value ++ ", " ++ halfText index
  | .reqCtl value index => "REQ.CTL " ++ halfText value ++ ", " ++ halfText index
  | .reqComm value index => "REQ.COMM " ++ halfText value ++ ", " ++ halfText index
  | .reqMode value index => "REQ.MODE " ++ halfText value ++ ", " ++ halfText index
  | .pollStatus => "POLL.STATUS"
  | .pollData => "POLL.DATA"

end Sys2Proof.Machine
end

