-- ==== Sys2Proof/Safety.lean ====
section
/-! DEFINITION. What the claims speak of: the protocol states, the invariant of the block, the run of a stream of words with
the results it returns, and the bytes a stream feeds to the checksum. -/

namespace Sys2Proof

open Sys2Proof.Machine

/-- The protocol states of 10_state.md R29. -/
inductive Protocol where
  | unready
  | ready
  | searchPending
  /-- the combination `READY = 0`, `SEARCHPENDING = 1` -/
  | unreachable
  deriving DecidableEq, Repr

/-- The protocol state that the two flags encode (10_state.md R29). -/
def protocolOf (s : State) : Protocol :=
  match s.ready, s.searchPending with
  | false, false => .unready
  | true, false => .ready
  | true, true => .searchPending
  | false, true => .unreachable

/-- The invariant of the block: a search is pending only while the block is ready (10_state.md R29), and where the mode
slots are not retained the five byte fields of `SR` hold the baseline (42_status_register.md R103). -/
def BlockInv (s : State) : Prop :=
  (s.searchPending = true → s.ready = true) ∧
  (s.params.retainModeSlots = false →
    s.sr.speed = 0x00 ∧ s.sr.spud = 0x20 ∧ s.sr.pdsrc = 0x05 ∧ s.sr.lowt = 0x04 ∧ s.sr.rect = 0x04)

/-- The run of a stream of words from a state: the result of each operation in order, and the state at the end
(70_reset_and_hazards.md R170). -/
def runStream : List PortWord → State → List Result × State
  | [], s => ([], s)
  | w :: ws, s =>
    match step { s with ops := [w] } with
    | .next t => (t.out :: (runStream ws t).1, (runStream ws t).2)
    | .fault _ => ([], s)
    | .refused _ => ([], s)

/-- The byte an operation feeds to the checksum, if it is `CRC.BYTE` (40_crc8.md R83). -/
def fedByte : Instr → Option Byte
  | .crcByte b => some b
  | _ => none

/-- Whether an operation is `CRC.INIT` (40_crc8.md R82). -/
def isCrcInit : Instr → Bool
  | .crcInit _ => true
  | _ => false

/-- Whether an operation is `ROM.READ` (41_rom_code.md R94). -/
def isRomRead : Instr → Bool
  | .romRead _ => true
  | _ => false

/-- The bytes a stream of words feeds to the checksum, in order; `code` is `CTL_RESET_CODE`. -/
def bytesFed (code : Half) (ws : List PortWord) : List Byte := ws.filterMap (fun w => fedByte (decode code w))

end Sys2Proof
end

