-- ==== Sys2Proof/Certificates/Slice0/Obligations.lean ====
section
/-! DEFINITION. The statements for the provers, each from a rule of spec/. Where a statement gives the next state of an
operation that is no communication request, it says `∃ tag` for the output `cmdTag`, because the spec does not say what
stands on `cmd_tag` then (assumption log entry 7); OnlyCommunicationDrivesTheTag says what the model does. -/

namespace Sys2Proof.Spec

open Sys2Proof.Machine

/-- The fifteen masks of 30_encoding.md R63 in priority order, written out for the statements. -/
def maskOrder : List Half :=
  [0x00F4, 0x21E4, 0x00D4, 0x00C4, 0x00B2, 0x00A2, 0x6092, 0x0080] ++
  [0x0074, 0x0064, 0x0052, 0x0042, 0x0030, 0x0012, 0x0601]

/-- `value` satisfies the mask of priority `k + 1` and none of a higher priority; for `k = 15`, none at all
(43_command_shell.md R113 to R127). -/
def Selected (k : Nat) (value : Half) : Prop :=
  (∀ m ∈ maskOrder[k]?, value &&& m = m) ∧ (∀ m ∈ maskOrder.take k, value &&& m ≠ m)

/-- The operation `i` answers an acknowledgement, drives the code `k` on `cmd_tag`, and changes nothing else. -/
def OnlyAcknowledges (k : BitVec 4) (i : Instr) : Prop :=
  ∀ s : State, exec i s = .next { s with out := .ack, cmdTag := some k }

/-- The word of a communication request. -/
def commWord (value index : Half) : PortWord := .control (0x01#8 ++ value ++ index)

/-- The word of a mode request. -/
def modeWord (value index : Half) : PortWord := .control (0x02#8 ++ value ++ index)

end Sys2Proof.Spec

open Sys2Proof Sys2Proof.Machine Sys2Proof.Spec

/-! ### Encoding and stepping -/

/-- No bit of an encoding is dropped: decoding the word of a well-formed operation gives the operation back, whatever the
reset code (30_encoding.md R72). -/
def Obligations.DecodeOfEncodeIsIdentity : Prop :=
  ∀ (code : Half) (i : Instr), i.wellFormed code = true → decode code (encode code i) = i

/-- Every word of every port is the word of the operation it selects, so two words never select one operation
(30_encoding.md R72). -/
def Obligations.EncodeOfDecodeIsIdentity : Prop :=
  ∀ (code : Half) (w : PortWord), encode code (decode code w) = w

/-- The operation a word selects meets its row's condition: no word falls to a neighbour's row (30_encoding.md R72). -/
def Obligations.DecodedOperationIsWellFormed : Prop :=
  ∀ (code : Half) (w : PortWord), (decode code w).wellFormed code = true

/-- The decoder selects the first row of opcode_table.json with `(word & mask) == match`, at the table's reset code
(30_encoding.md R72). -/
def Obligations.DecoderFollowsOpcodeTable : Prop :=
  ∀ w : PortWord, tableMnemonic w = some (decode 0x0000 w).mnemonic

/-- One word of each family, written out from 30_encoding.md R55 to R65, decodes to the operation it stands for. That a word
of 12, 40 or 1 bits is given in 16, 40 or 8 bits is the model's choice, not the spec's (log entry 14). -/
def Obligations.WrittenOutWordsDecode : Prop :=
  decodeTableWord 16 0b000111110000 = some (.crcByte 0xF0) ∧
  decodeTableWord 16 0b010000000000 = some (.romRead 0x00) ∧
  decodeTableWord 16 0b100100000001 = some (.srSpue 0 true) ∧
  decodeTableWord 16 0b011100000000 = some (.uRsvdRom 0b11 0x00) ∧
  decodeTableWord 40 0x0000000000 = some (.ctlReset 0x0000) ∧
  decodeTableWord 40 0x0121E40000 = some (.commReadRedirect 0x21E4 0x0000) ∧
  decodeTableWord 40 0x0200070001 = some (.modeRect 0x0001) ∧
  decodeTableWord 40 0x0300000000 = some (.reqRsvd 0x03 0x0000 0x0000) ∧
  decodeTableWord 8 0b1 = some .pollData

/-- The command tag is that of the first matching mask in the order of 30_encoding.md R63, and its code is the priority
less one, 15 where no mask matches (43_command_shell.md R110, 30_encoding.md R71). -/
def Obligations.CommTagIsFirstMatchingMask : Prop :=
  ∀ (value : Half) (k : Nat), k < 16 → (Selected k value ↔ tagCode (commTag value) = BitVec.ofNat 4 k)

/-- Each of the fifteen mask values selects its own tag, though many satisfy lower masks too (43_command_shell.md R111). -/
def Obligations.EveryMaskSelectsItsOwnTag : Prop :=
  ∀ k < 15, ∀ m ∈ maskOrder[k]?, tagCode (commTag m) = BitVec.ofNat 4 k

/-- A step performs the next word the host presents, taken off the front, and is idle where there is none
(20_memory.md R50; the list of words is the model's own, log entry 6). -/
def Obligations.StepPerformsPresentedOperation : Prop :=
  (∀ (s : State) (w : PortWord) (rest : List PortWord), s.ops = w :: rest →
    step s = exec (decode s.params.ctlResetCode w) { s with ops := rest }) ∧
  (∀ s : State, s.ops = [] → step s = .next s)

/-- A word placed for the fetch is what the next step runs, in the very state it was placed in (log entries 6, 14). -/
def Obligations.PlacedWordRunsNext : Prop :=
  ∀ (s : State) (nbits w : Nat) (i : Instr), s.params.ctlResetCode = 0x0000 → decodeTableWord nbits w = some i →
    step (s.withFetchWord nbits w) = exec i s

/-! ### Power-on -/

/-- Power-on sets every item of state, for every parameter and identity (70_reset_and_hazards.md R156; the values of `SR`
and `CRCACC` are the spec's decision D8, log entry 8). -/
def Obligations.PowerOnSetsEveryItem : Prop :=
  ∀ (p : Params) (f : Byte) (ser : Serial),
    (State.powerOn p f ser).crcAcc = 0x00 ∧ (State.powerOn p f ser).family = f ∧ (State.powerOn p f ser).serial = ser ∧
    (State.powerOn p f ser).sr =
      { spue := false, spce := false, speed := 0x00, spud := 0x20, pdsrc := 0x05, lowt := 0x04, rect := 0x04 } ∧
    (State.powerOn p f ser).ready = false ∧ (State.powerOn p f ser).searchPending = false ∧
    protocolOf (State.powerOn p f ser) = .unready

/-- The reset state of the model is power-on with the values 00_scope.md R8 to R11 fix and an identity that stays open (R7).
The opaque identity is the model's form of the spec's OPEN (log entry 2); the table and the reset code are general knowledge
(entries 3, 4), and the values of R10 and R11 are the spec's own choice (entry 5). -/
def Obligations.ResetIsPowerOnWithSpecParameters : Prop :=
  State.reset = State.powerOn State.reset.params Config.family Config.serial ∧ State.reset.params.crcTable = dowTable ∧
  State.reset.params.ctlResetCode = 0x0000 ∧ State.reset.params.retainModeSlots = false ∧
  State.reset.params.payloadMode = .placeholder

/-! ### Unit CRC -/

/-- `TableRead(i)` is entry `i` of the table, for every index (20_memory.md R36). -/
def Obligations.TableReadReturnsTheEntry : Prop :=
  ∀ (t : CrcTable) (i : Byte), t[i.toNat]? = some (tableRead t i)

/-- `CRC.INIT`, whatever its ignored operand (40_crc8.md R82). -/
def Obligations.CrcInitClearsAccumulator : Prop :=
  ∀ (code : Half) (arg : Byte) (s : State),
    decode code (.unit (0x0#4 ++ arg)) = .crcInit arg ∧
    ∃ tag, exec (.crcInit arg) s = .next { s with crcAcc := 0x00, out := .none, cmdTag := tag }

/-- `CRC.BYTE b` (40_crc8.md R83, R76). -/
def Obligations.CrcByteStepsAccumulator : Prop :=
  ∀ (code : Half) (b : Byte) (s : State),
    decode code (.unit (0x1#4 ++ b)) = .crcByte b ∧
    crcStep s.params.crcTable s.crcAcc b = tableRead s.params.crcTable (s.crcAcc ^^^ b) ∧
    ∃ tag, exec (.crcByte b) s =
      .next { s with crcAcc := tableRead s.params.crcTable (s.crcAcc ^^^ b), out := .none, cmdTag := tag }

/-- `CRC.READ`, whatever its ignored operand (40_crc8.md R84). -/
def Obligations.CrcReadReturnsAccumulator : Prop :=
  ∀ (code : Half) (arg : Byte) (s : State),
    decode code (.unit (0x2#4 ++ arg)) = .crcRead arg ∧
    ∃ tag, exec (.crcRead arg) s = .next { s with out := .bytes .unit [s.crcAcc], cmdTag := tag }

/-- The checksum of the empty sequence is 0x00, and one more byte is one more iteration (40_crc8.md R77, R79). -/
def Obligations.ChecksumIsLeftToRight : Prop :=
  ∀ (t : CrcTable) (d : List Byte) (b : Byte),
    crc8 t [] = 0x00 ∧ crc8 t (d ++ [b]) = tableRead t (crc8 t d ^^^ b)

/-- Appending its checksum to a sequence gives checksum 0x00, for any table whose entry 0 is 0x00 (40_crc8.md R80, 20_memory.md
R39 c: inferences the spec marks as its own). -/
def Obligations.ChecksumOfSelfCheckedIsZero : Prop :=
  ∀ (t : CrcTable) (d : List Byte), t[0] = 0x00 → crc8 t (d ++ [crc8 t d]) = 0x00

/-- The prefix law, and leading zero bytes change nothing where entry 0 is 0x00 (40_crc8.md R81 a, d). -/
def Obligations.ChecksumPrefixAndLeadingZeros : Prop :=
  ∀ (t : CrcTable) (a b : List Byte) (n : Nat),
    crc8 t (a ++ b) = b.foldl (fun acc x => tableRead t (acc ^^^ x)) (crc8 t a) ∧
    (t[0] = 0x00 → crc8 t (List.replicate n 0x00 ++ a) = crc8 t a)

/-- With the table of 20_memory.md R37, an iteration is a bijection in each argument (40_crc8.md R81 b; the table is general
knowledge, log entry 3). -/
def Obligations.IterationIsBijective : Prop :=
  (∀ b : Byte, Function.Bijective (fun acc => crcStep dowTable acc b)) ∧
  (∀ acc : Byte, Function.Bijective (fun b => crcStep dowTable acc b))

/-- With the table of 20_memory.md R37, the checksum of the exclusive-or of two sequences of equal length is the exclusive-or
of the checksums (40_crc8.md R81 c; the table is general knowledge, log entry 3). -/
def Obligations.ChecksumIsLinear : Prop :=
  (∀ x y : Byte, tableRead dowTable (x ^^^ y) = tableRead dowTable x ^^^ tableRead dowTable y) ∧
  (∀ a b : List Byte, a.length = b.length →
    crc8 dowTable (List.zipWith (· ^^^ ·) a b) = crc8 dowTable a ^^^ crc8 dowTable b)

/-- Every entry of the table of 20_memory.md R37 is what the bit-serial recurrence of R38 gives (general knowledge both, log
entry 3). -/
def Obligations.TableFollowsRecurrence : Prop :=
  ∀ i : Byte, tableRead dowTable i =
    (fun c : Byte => if c.getLsbD 0 then (c >>> 1) ^^^ 0x8C else c >>> 1)^[8] i

/-- A checksum stream: after a word of `CRC.INIT`, any words that are no `CRC.INIT`, then a word of `CRC.READ`, the last
result is the checksum of the bytes of the `CRC.BYTE` words among them, which `CRCACC` holds too, whatever else was
interleaved and whatever `CRCACC` held before (40_crc8.md R85). -/
def Obligations.ChecksumStreamSurvivesInterleaving : Prop :=
  ∀ (s : State) (ws : List PortWord) (a r : Byte),
    (∀ w ∈ ws, isCrcInit (decode s.params.ctlResetCode w) = false) →
    (runStream (PortWord.unit (0x0#4 ++ a) :: (ws ++ [PortWord.unit (0x2#4 ++ r)])) s).1.getLast? =
      some (.bytes .unit [crc8 s.params.crcTable (bytesFed s.params.ctlResetCode ws)]) ∧
    (runStream (PortWord.unit (0x0#4 ++ a) :: (ws ++ [PortWord.unit (0x2#4 ++ r)])) s).2.crcAcc =
      crc8 s.params.crcTable (bytesFed s.params.ctlResetCode ws)

/-- The pseudo-operations: `CRC8` of any bytes returns their checksum last, and each of the others is one word that decodes
to the operation it names (30_encoding.md R75). -/
def Obligations.PseudoOperationsExpand : Prop :=
  (∀ (s : State) (d : List Byte),
    (runStream ((expand s.params.ctlResetCode (.crc8 d)).map assemble) s).1.getLast? =
      some (.bytes .unit [crc8 s.params.crcTable d])) ∧
  (∀ (code : Half) (e : Bool),
    (expand code .reset).map (fun x => decode code (assemble x)) = [.ctlReset 0x0000] ∧
    (expand code .search).map (fun x => decode code (assemble x)) = [.commSearchAccess 0x00F4 0x0000] ∧
    (expand code (.pullup e)).map (fun x => decode code (assemble x)) = [.modePulseEn (if e then 0x0002 else 0x0000)] ∧
    (expand code (.spchg e)).map (fun x => decode code (assemble x)) = [.modeSpeedChangeEn (if e then 0x0001 else 0x0000)])

/-! ### Unit ROM -/

/-- `ROM.READ` returns checksum, serial, family, the checksum being over family then serial, and changes nothing
(41_rom_code.md R94, R87). -/
def Obligations.RomReadReturnsRomCode : Prop :=
  ∀ (code : Half) (arg : Byte) (s : State),
    decode code (.unit (0x4#4 ++ arg)) = .romRead arg ∧
    ∃ tag, exec (.romRead arg) s = .next { s with
      out := .bytes .unit
        [crc8 s.params.crcTable
          [s.family, s.serial[0], s.serial[1], s.serial[2], s.serial[3], s.serial[4], s.serial[5]],
         s.serial[0], s.serial[1], s.serial[2], s.serial[3], s.serial[4], s.serial[5], s.family],
      cmdTag := tag }

/-- A ROM code has eight bytes, its first is the checksum of the last followed by bytes 1 to 6, and, where entry 0 of the
table is 0x00, appending the first to those gives checksum 0x00 (41_rom_code.md R89). -/
def Obligations.RomCodeValidates : Prop :=
  ∀ (t : CrcTable) (f : Byte) (ser : Serial), ∃ (c : Byte) (mid : List Byte),
    romOf t f ser = c :: (mid ++ [f]) ∧ mid.length = 6 ∧ (romOf t f ser).length = 8 ∧
    c = crc8 t (f :: mid) ∧ (t[0] = 0x00 → crc8 t (f :: mid ++ [c]) = 0x00)

/-- The first byte of a ROM code is not in general the checksum of the other seven in their own order (41_rom_code.md R90,
90_conflicts.md C1; with the table of R37, log entry 3). -/
def Obligations.TailOrderChecksumIsNoLaw : Prop :=
  ∃ (f : Byte) (ser : Serial), (romOf dowTable f ser).head? ≠ some (crc8 dowTable (romOf dowTable f ser).tail)

/-! ### Unit SR and the reserved unit codes -/

/-- `SR.RESET`: the seven fields and `READY`, and nothing else; `SEARCHPENDING` is kept (42_status_register.md R96). -/
def Obligations.SrResetSetsBaseline : Prop :=
  ∀ (code : Half) (arg : Byte) (s : State),
    decode code (.unit (0x8#4 ++ arg)) = .srReset arg ∧
    ∃ tag, exec (.srReset arg) s = .next { s with
      sr := { spue := false, spce := false, speed := 0x00, spud := 0x20, pdsrc := 0x05, lowt := 0x04, rect := 0x04 },
      ready := true, out := .none, cmdTag := tag }

/-- `SR.SPUE e` and `SR.SPCE e`: each writes its flag and nothing else, whatever its ignored bits (42_status_register.md R97,
R98). -/
def Obligations.FlagOperationsWriteOneFlag : Prop :=
  ∀ (code : Half) (ign : BitVec 7) (e : Bool) (s : State),
    decode code (.unit (0x9#4 ++ ign ++ BitVec.ofBool e)) = .srSpue ign e ∧
    decode code (.unit (0xA#4 ++ ign ++ BitVec.ofBool e)) = .srSpce ign e ∧
    (∃ tag, exec (.srSpue ign e) s = .next { s with sr := { s.sr with spue := e }, out := .none, cmdTag := tag }) ∧
    (∃ tag, exec (.srSpce ign e) s = .next { s with sr := { s.sr with spce := e }, out := .none, cmdTag := tag })

/-- `SR.SER` returns the report of 30_encoding.md R67 and changes nothing (42_status_register.md R99). -/
def Obligations.SrSerReturnsReport : Prop :=
  ∀ (code : Half) (arg : Byte) (s : State),
    decode code (.unit (0xB#4 ++ arg)) = .srSer arg ∧
    ∃ tag, exec (.srSer arg) s = .next { s with
      out := .bytes .unit
        [(if s.sr.spce then 0x04 else 0x00) ||| (if s.sr.spue then 0x01 else 0x00), s.sr.speed, s.sr.spud, 0x00,
         s.sr.pdsrc, s.sr.lowt, s.sr.rect, 0x00],
      cmdTag := tag }

/-- The seven fields can be read back from the report, so two registers never give one report (42_status_register.md R102). -/
def Obligations.ReportLosesNothing : Prop :=
  (∀ v : StatusReg, ∃ b0 : Byte, serialize v = [b0, v.speed, v.spud, 0x00, v.pdsrc, v.lowt, v.rect, 0x00] ∧
    b0.getLsbD 0 = v.spue ∧ b0.getLsbD 2 = v.spce) ∧
  (∀ u v : StatusReg, serialize u = serialize v → u = v)

/-- The three rows of `U.RSVD`: no state change and no result (42_status_register.md R104). -/
def Obligations.ReservedUnitCodesDoNothing : Prop :=
  ∀ (code : Half) (op : BitVec 2) (arg : Byte) (s : State),
    decode code (.unit (0x3#4 ++ arg)) = .uRsvdCrc arg ∧
    (op ≠ 0b00 → decode code (.unit (0b01#2 ++ op ++ arg)) = .uRsvdRom op arg) ∧
    decode code (.unit (0b11#2 ++ op ++ arg)) = .uRsvdUnit op arg ∧
    (∃ tag, exec (.uRsvdCrc arg) s = .next { s with out := .none, cmdTag := tag }) ∧
    (∃ tag, exec (.uRsvdRom op arg) s = .next { s with out := .none, cmdTag := tag }) ∧
    (∃ tag, exec (.uRsvdUnit op arg) s = .next { s with out := .none, cmdTag := tag })

/-! ### The shell: requests -/

/-- `REQ.CTL.RESET`, selected by the reset code: performs `SR.RESET`, then acknowledges; a pending search stays pending
(43_command_shell.md R108). -/
def Obligations.ControlResetSetsBaseline : Prop :=
  ∀ (code index : Half) (s : State),
    decode code (.control (0x00#8 ++ code ++ index)) = .ctlReset index ∧
    ∃ tag, exec (.ctlReset index) s = .next { s with
      sr := { spue := false, spce := false, speed := 0x00, spud := 0x20, pdsrc := 0x05, lowt := 0x04, rect := 0x04 },
      ready := true, out := .ack, cmdTag := tag }

/-- `REQ.CTL.OTHER`, selected by every other value: acknowledged, no state change (43_command_shell.md R109). -/
def Obligations.OtherControlOnlyAcknowledges : Prop :=
  ∀ (code value index : Half) (s : State),
    (value ≠ code → decode code (.control (0x00#8 ++ value ++ index)) = .ctlOther value index) ∧
    ∃ tag, exec (.ctlOther value index) s = .next { s with out := .ack, cmdTag := tag }

/-- `REQ.COMM.SEARCH_ACCESS`: every value with all the bits of 0x00F4 selects it; it sets `SEARCHPENDING` if `READY`, and
otherwise only acknowledges (43_command_shell.md R112). -/
def Obligations.SearchSetsPendingOnlyWhenReady : Prop :=
  ∀ (code value index : Half) (s : State),
    (value &&& 0x00F4 = 0x00F4 → decode code (commWord value index) = .commSearchAccess value index) ∧
    (s.ready = true → exec (.commSearchAccess value index) s =
      .next { s with searchPending := true, out := .ack, cmdTag := some 0 }) ∧
    (s.ready = false → exec (.commSearchAccess value index) s = .next { s with out := .ack, cmdTag := some 0 })

/-- The tags of priority 2 to 8: each is selected by its mask where no earlier mask matches, and is acknowledged with its
code on `cmd_tag` and no state change (43_command_shell.md R113 to R119). -/
def Obligations.CommPriorities2To8OnlyAcknowledge : Prop :=
  ∀ (code v i : Half),
    (Selected 1 v → decode code (commWord v i) = .commReadRedirect v i) ∧ OnlyAcknowledges 1 (.commReadRedirect v i) ∧
    (Selected 2 v → decode code (commWord v i) = .commReadCrcProt v i) ∧ OnlyAcknowledges 2 (.commReadCrcProt v i) ∧
    (Selected 3 v → decode code (commWord v i) = .commWriteEprom v i) ∧ OnlyAcknowledges 3 (.commWriteEprom v i) ∧
    (Selected 4 v → decode code (commWord v i) = .commWriteSram v i) ∧ OnlyAcknowledges 4 (.commWriteSram v i) ∧
    (Selected 5 v → decode code (commWord v i) = .commSetPath v i) ∧ OnlyAcknowledges 5 (.commSetPath v i) ∧
    (Selected 6 v → decode code (commWord v i) = .commDoRelease v i) ∧ OnlyAcknowledges 6 (.commDoRelease v i) ∧
    (Selected 7 v → decode code (commWord v i) = .commReadStraight v i) ∧ OnlyAcknowledges 7 (.commReadStraight v i)

/-- The tags of priority 9 to 15 and `NONE`, likewise (43_command_shell.md R120 to R127). -/
def Obligations.CommPriorities9To16OnlyAcknowledge : Prop :=
  ∀ (code v i : Half),
    (Selected 8 v → decode code (commWord v i) = .commBlockIo v i) ∧ OnlyAcknowledges 8 (.commBlockIo v i) ∧
    (Selected 9 v → decode code (commWord v i) = .commMatchAccess v i) ∧ OnlyAcknowledges 9 (.commMatchAccess v i) ∧
    (Selected 10 v → decode code (commWord v i) = .commByteIo v i) ∧ OnlyAcknowledges 10 (.commByteIo v i) ∧
    (Selected 11 v → decode code (commWord v i) = .commOneWireReset v i) ∧ OnlyAcknowledges 11 (.commOneWireReset v i) ∧
    (Selected 12 v → decode code (commWord v i) = .commPulse v i) ∧ OnlyAcknowledges 12 (.commPulse v i) ∧
    (Selected 13 v → decode code (commWord v i) = .commSetDuration v i) ∧ OnlyAcknowledges 13 (.commSetDuration v i) ∧
    (Selected 14 v → decode code (commWord v i) = .commErrorEscape v i) ∧ OnlyAcknowledges 14 (.commErrorEscape v i) ∧
    (Selected 15 v → decode code (commWord v i) = .commNone v i) ∧ OnlyAcknowledges 15 (.commNone v i)

/-- `REQ.MODE.PULSE_EN`: the flag is set exactly by the 16-bit index 0x0002 (43_command_shell.md R128; the width of the
comparison is the spec's reading D24, log entry 11). -/
def Obligations.PulseEnableWritesSpue : Prop :=
  ∀ (code index : Half) (s : State),
    decode code (modeWord 0x0000 index) = .modePulseEn index ∧
    (∃ tag, exec (.modePulseEn index) s = .next { s with
      sr := { s.sr with spue := decide (index.toNat = 2) }, out := .ack, cmdTag := tag })

/-- `REQ.MODE.SPEED_CHANGE_EN`: the flag is set exactly by the 16-bit index 0x0001 (43_command_shell.md R129; D24, log
entry 11). -/
def Obligations.SpeedChangeEnableWritesSpce : Prop :=
  ∀ (code index : Half) (s : State),
    decode code (modeWord 0x0001 index) = .modeSpeedChangeEn index ∧
    (∃ tag, exec (.modeSpeedChangeEn index) s = .next { s with
      sr := { s.sr with spce := decide (index.toNat = 1) }, out := .ack, cmdTag := tag })

/-- Slots 2, 3, 4, 6 and 7: with `RETAIN_MODE_SLOTS = true` each stores the low byte of the index in its one field, with
`false` it changes nothing; it is acknowledged either way (43_command_shell.md R130, R131, R132, R134, R135; D12, log
entry 12). -/
def Obligations.RetainableSlotsStoreLowByteOrNothing : Prop :=
  ∀ (code index : Half) (s : State),
    decode code (modeWord 0x0002 index) = .modeSpeed index ∧
    decode code (modeWord 0x0003 index) = .modeSpud index ∧
    decode code (modeWord 0x0004 index) = .modePdsrc index ∧
    decode code (modeWord 0x0006 index) = .modeLowt index ∧
    decode code (modeWord 0x0007 index) = .modeRect index ∧
    (s.params.retainModeSlots = true → ∃ tag,
      exec (.modeSpeed index) s =
        .next { s with sr := { s.sr with speed := index.setWidth 8 }, out := .ack, cmdTag := tag } ∧
      exec (.modeSpud index) s =
        .next { s with sr := { s.sr with spud := index.setWidth 8 }, out := .ack, cmdTag := tag } ∧
      exec (.modePdsrc index) s =
        .next { s with sr := { s.sr with pdsrc := index.setWidth 8 }, out := .ack, cmdTag := tag } ∧
      exec (.modeLowt index) s =
        .next { s with sr := { s.sr with lowt := index.setWidth 8 }, out := .ack, cmdTag := tag } ∧
      exec (.modeRect index) s =
        .next { s with sr := { s.sr with rect := index.setWidth 8 }, out := .ack, cmdTag := tag }) ∧
    (s.params.retainModeSlots = false → ∃ tag,
      exec (.modeSpeed index) s = .next { s with out := .ack, cmdTag := tag } ∧
      exec (.modeSpud index) s = .next { s with out := .ack, cmdTag := tag } ∧
      exec (.modePdsrc index) s = .next { s with out := .ack, cmdTag := tag } ∧
      exec (.modeLowt index) s = .next { s with out := .ack, cmdTag := tag } ∧
      exec (.modeRect index) s = .next { s with out := .ack, cmdTag := tag })

/-- Slot 5 and the values above 7: acknowledged, no state change, retained or not (43_command_shell.md R133, R136). -/
def Obligations.SlotFiveAndOtherModesOnlyAcknowledge : Prop :=
  ∀ (code value index : Half) (s : State),
    decode code (modeWord 0x0005 index) = .modePpd index ∧
    (0x0008 ≤ value.toNat → decode code (modeWord value index) = .modeOther value index) ∧
    (∃ tag, exec (.modePpd index) s = .next { s with out := .ack, cmdTag := tag }) ∧
    (∃ tag, exec (.modeOther value index) s = .next { s with out := .ack, cmdTag := tag })

/-- A request of class 0x03 to 0xFF: no state change, no result (43_command_shell.md R137). -/
def Obligations.ReservedClassIsNotSelected : Prop :=
  ∀ (code : Half) (cls : Byte) (value index : Half) (s : State),
    (0x03 ≤ cls.toNat → decode code (.control (cls ++ value ++ index)) = .reqRsvd cls value index) ∧
    ∃ tag, exec (.reqRsvd cls value index) s = .next { s with out := .none, cmdTag := tag }

/-- A step on a vendor request of class 0, 1 or 2 ends with exactly one empty acknowledgement as its result, whatever the
value, the index and the state (43_command_shell.md R106). -/
def Obligations.EveryDefinedRequestIsAcknowledged : Prop :=
  ∀ (s : State) (cls : Byte) (value index : Half) (rest : List PortWord),
    s.ops = .control (cls ++ value ++ index) :: rest → cls.toNat < 3 →
    ∃ t, step s = .next t ∧ t.out = .ack ∧ t.ops = rest

/-! ### The shell: polls -/

/-- `POLL.STATUS`: the 17 bytes exactly when `READY` and `SEARCHPENDING`, otherwise nothing; no state change
(43_command_shell.md R138, 30_encoding.md R68). -/
def Obligations.StatusPollReturnsReportWhilePending : Prop :=
  ∀ (code : Half) (s : State),
    decode code (.poll 0) = .pollStatus ∧
    (s.ready = true ∧ s.searchPending = true → ∃ tag, exec .pollStatus s = .next { s with
      out := .bytes .status
        ([(if s.sr.spce then 0x04 else 0x00) ||| (if s.sr.spue then 0x01 else 0x00), s.sr.speed, s.sr.spud, 0x00,
          s.sr.pdsrc, s.sr.lowt, s.sr.rect, 0x00] ++ [0x20, 0x00, 0x00, 0x00, 0x00, 0x08, 0x00, 0x00, 0xA5]),
      cmdTag := tag }) ∧
    (¬(s.ready = true ∧ s.searchPending = true) →
      ∃ tag, exec .pollStatus s = .next { s with out := .none, cmdTag := tag })

/-- `POLL.DATA`: the payload of the parameter's mode, and the search consumed, exactly when `READY` and `SEARCHPENDING`;
otherwise nothing and no state change (43_command_shell.md R139, 30_encoding.md R69). -/
def Obligations.DataPollReturnsPayloadAndConsumesSearch : Prop :=
  ∀ (code : Half) (s : State),
    decode code (.poll 1) = .pollData ∧
    (s.ready = true ∧ s.searchPending = true → ∃ tag, exec .pollData s = .next { s with
      searchPending := false,
      out := .bytes .data (if s.params.payloadMode = .rom then romOf s.params.crcTable s.family s.serial
        else [0x00, 0x01, 0x02, 0x03, 0x04, 0x05, 0x06, 0x07]),
      cmdTag := tag }) ∧
    (¬(s.ready = true ∧ s.searchPending = true) →
      ∃ tag, exec .pollData s = .next { s with out := .none, cmdTag := tag })

/-- The reads: `CRC.READ`, `ROM.READ`, `SR.SER` and `POLL.STATUS` leave every item of the block's state as it is and return
the same again; a data poll that follows a data poll returns nothing (20_memory.md R48). -/
def Obligations.ReadsRepeatExceptDataPoll : Prop :=
  (∀ (i : Instr) (s t u : State),
    (∃ a, i = .crcRead a ∨ i = .romRead a ∨ i = .srSer a) ∨ i = .pollStatus →
    exec i s = .next t → exec i t = .next u →
    u.out = t.out ∧ t.crcAcc = s.crcAcc ∧ t.family = s.family ∧ t.serial = s.serial ∧ t.sr = s.sr ∧
    t.ready = s.ready ∧ t.searchPending = s.searchPending) ∧
  (∀ s t u : State, exec .pollData s = .next t → exec .pollData t = .next u →
    u.out = .none ∧ (t.out ≠ .none → s.searchPending = true ∧ t.searchPending = false))

/-! ### Rules of the whole machine -/

/-- No operation stops the machine, in any state and for any operand; nor does a step (60_exceptions.md R142). -/
def Obligations.NoOperationCanStop : Prop :=
  (∀ (i : Instr) (s : State), ∃ t, exec i s = .next t) ∧ (∀ s : State, ∃ t, step s = .next t)

/-- Only `CRC.INIT` and `CRC.BYTE` write `CRCACC` (10_state.md R14, R34). -/
def Obligations.OnlyInitAndByteWriteAccumulator : Prop :=
  ∀ (i : Instr) (s t : State), exec i s = .next t → isCrcInit i = false → fedByte i = none → t.crcAcc = s.crcAcc

/-- No operation writes the identity or a parameter, nor the words still to come (10_state.md R15, R32; the last is the
model's own field, log entry 6). -/
def Obligations.IdentityAndParametersNeverChange : Prop :=
  ∀ (i : Instr) (s t : State), exec i s = .next t →
    t.family = s.family ∧ t.serial = s.serial ∧ t.params = s.params ∧ t.ops = s.ops

/-- `SR` is written only by the two resets, the two flag operations of the unit port and of the mode class, and, only where
they are retained, five mode slots (42_status_register.md R101). -/
def Obligations.OnlyNamedOperationsWriteStatus : Prop :=
  ∀ (i : Instr) (s t : State), exec i s = .next t → t.sr ≠ s.sr →
    (∃ a, i = .srReset a) ∨ (∃ g e, i = .srSpue g e ∨ i = .srSpce g e) ∨
    (∃ x, i = .ctlReset x ∨ i = .modePulseEn x ∨ i = .modeSpeedChangeEn x) ∨
    (s.params.retainModeSlots = true ∧
      ∃ x, i = .modeSpeed x ∨ i = .modeSpud x ∨ i = .modePdsrc x ∨ i = .modeLowt x ∨ i = .modeRect x)

/-- `READY` is set by the two resets, by them alone, and is cleared by nothing (10_state.md R27). -/
def Obligations.OnlyResetsSetReadyAndNothingClearsIt : Prop :=
  ∀ (i : Instr) (s t : State), exec i s = .next t →
    (s.ready = true → t.ready = true) ∧
    ((∃ a, i = .srReset a) ∨ (∃ x, i = .ctlReset x) → t.ready = true) ∧
    (s.ready = false → t.ready = true → (∃ a, i = .srReset a) ∨ (∃ x, i = .ctlReset x))

/-- `SEARCHPENDING` is set only by a search command while `READY`, and cleared only by a data poll that returns data
(10_state.md R28). -/
def Obligations.PendingIsSetBySearchAndClearedByData : Prop :=
  ∀ (i : Instr) (s t : State), exec i s = .next t →
    (s.searchPending = false → t.searchPending = true → s.ready = true ∧ ∃ v x, i = .commSearchAccess v x) ∧
    (s.searchPending = true → t.searchPending = false → i = .pollData ∧ ∃ d, t.out = .bytes .data d)

/-- The protocol table: every operation's next protocol state from each of the three states, and whether a poll returns
nothing, 17 bytes or 8 bytes there (43_command_shell.md R141). In the combination of flags that no run reaches, a reset gives
`SearchPending` and nothing else changes the flags (93_implementation_defined.md U8). -/
def Obligations.ProtocolFollowsTable : Prop :=
  ∀ (i : Instr) (s t : State), exec i s = .next t →
    (((∃ a, i = .srReset a) ∨ (∃ x, i = .ctlReset x)) →
      protocolOf t = (if protocolOf s = .unready ∨ protocolOf s = .ready then .ready else .searchPending)) ∧
    ((∃ v x, i = .commSearchAccess v x) →
      protocolOf t = (if protocolOf s = .ready then .searchPending else protocolOf s)) ∧
    (i = .pollData → protocolOf t = (if protocolOf s = .searchPending then .ready else protocolOf s)) ∧
    ((∀ a x v, i ≠ .srReset a ∧ i ≠ .ctlReset x ∧ i ≠ .commSearchAccess v x) → i ≠ .pollData →
      protocolOf t = protocolOf s) ∧
    (i = .pollStatus ∨ i = .pollData → protocolOf s ≠ .searchPending → t.out = .none) ∧
    (i = .pollStatus → protocolOf s = .searchPending → ∃ d, t.out = .bytes .status d ∧ d.length = 17) ∧
    (i = .pollData → protocolOf s = .searchPending → ∃ d, t.out = .bytes .data d ∧ d.length = 8)

/-- The invariant holds after power-on, for every parameter and identity (10_state.md R29, 42_status_register.md R103). -/
def Obligations.InvariantHoldsAtPowerOn : Prop :=
  BlockInv State.reset ∧ ∀ (p : Params) (f : Byte) (ser : Serial), BlockInv (State.powerOn p f ser)

/-- Every step keeps the invariant: a search is pending only while the block is ready, and unretained byte fields hold the
baseline (10_state.md R29, 42_status_register.md R103). -/
def Obligations.InvariantIsKeptByEveryStep : Prop :=
  ∀ s t : State, BlockInv s → step s = .next t → BlockInv t

/-- Where the slots are not retained, a status poll in a state that meets the invariant returns nothing or one of exactly
four reports with the trailer (42_status_register.md R103). -/
def Obligations.UnretainedReportIsOneOfFour : Prop :=
  ∀ s t : State, BlockInv s → s.params.retainModeSlots = false → exec .pollStatus s = .next t →
    t.out = .none ∨ ∃ b ∈ [0x00#8, 0x01#8, 0x04#8, 0x05#8],
      t.out = .bytes .status ([b, 0x00, 0x20, 0x00, 0x05, 0x04, 0x04, 0x00] ++
        [0x20, 0x00, 0x00, 0x00, 0x00, 0x08, 0x00, 0x00, 0xA5])

/-- The streaming accumulator is invisible outside unit CRC: no other operation's result or effect depends on it
(10_state.md R14, R34; 41_rom_code.md R93). -/
def Obligations.AccumulatorIsInvisibleOutsideCrc : Prop :=
  ∀ (i : Instr) (s t : State) (a : Byte), isCrcInit i = false → fedByte i = none → (∀ x, i ≠ .crcRead x) →
    exec i s = .next t → exec i { s with crcAcc := a } = .next { t with crcAcc := a }

/-- With the placeholder payload, no stream of words without a `ROM.READ` can tell one identity from another: the results
are the same for every identity (41_rom_code.md R95, 10_state.md R31). -/
def Obligations.IdentityLeavesOnlyByRomRead : Prop :=
  ∀ (s : State) (ws : List PortWord) (f : Byte) (ser : Serial), s.params.payloadMode = .placeholder →
    (∀ w ∈ ws, isRomRead (decode s.params.ctlResetCode w) = false) →
    (runStream ws { s with family := f, serial := ser }).1 = (runStream ws s).1

/-- A run of a stream of words returns one result for each, and its final state is where as many steps of the machine end
that finds the words to come (70_reset_and_hazards.md R170, 20_memory.md R50). -/
def Obligations.RunReturnsOneResultForEachWord : Prop :=
  ∀ (s : State) (ws : List PortWord), s.ops = [] →
    (runStream ws s).1.length = ws.length ∧
    Host.Core.run core ws.length { s with ops := ws } = .next (runStream ws s).2

/-- The output `cmd_tag` is driven by communication requests alone (30_encoding.md R71, R153); that it is absent otherwise is
the model's choice (log entry 7). -/
def Obligations.OnlyCommunicationDrivesTheTag : Prop :=
  ∀ (code : Half) (w : PortWord) (s t : State), exec (decode code w) s = .next t →
    t.cmdTag = (match w with
      | .control v => if classField v = 0x01 then some (tagCode (commTag (valueField v))) else none
      | _ => none)
end

