-- ==== Sys2Proof/Laws/State.lean ====
section
/-! SUPPORT. What each update of the state leaves in each field: one lemma for each field and update, true by definition. -/

namespace Sys2Proof.Machine

variable (s : State)

@[simp] theorem State.setCrcAcc_crcAcc (v : Byte) : (s.setCrcAcc v).crcAcc = v := rfl
@[simp] theorem State.setCrcAcc_family (v : Byte) : (s.setCrcAcc v).family = s.family := rfl
@[simp] theorem State.setCrcAcc_serial (v : Byte) : (s.setCrcAcc v).serial = s.serial := rfl
@[simp] theorem State.setCrcAcc_sr (v : Byte) : (s.setCrcAcc v).sr = s.sr := rfl
@[simp] theorem State.setCrcAcc_ready (v : Byte) : (s.setCrcAcc v).ready = s.ready := rfl
@[simp] theorem State.setCrcAcc_searchPending (v : Byte) : (s.setCrcAcc v).searchPending = s.searchPending := rfl
@[simp] theorem State.setCrcAcc_params (v : Byte) : (s.setCrcAcc v).params = s.params := rfl
@[simp] theorem State.setCrcAcc_ops (v : Byte) : (s.setCrcAcc v).ops = s.ops := rfl
@[simp] theorem State.setCrcAcc_out (v : Byte) : (s.setCrcAcc v).out = s.out := rfl
@[simp] theorem State.setCrcAcc_cmdTag (v : Byte) : (s.setCrcAcc v).cmdTag = s.cmdTag := rfl

@[simp] theorem State.setSr_crcAcc (v : StatusReg) : (s.setSr v).crcAcc = s.crcAcc := rfl
@[simp] theorem State.setSr_family (v : StatusReg) : (s.setSr v).family = s.family := rfl
@[simp] theorem State.setSr_serial (v : StatusReg) : (s.setSr v).serial = s.serial := rfl
@[simp] theorem State.setSr_sr (v : StatusReg) : (s.setSr v).sr = v := rfl
@[simp] theorem State.setSr_ready (v : StatusReg) : (s.setSr v).ready = s.ready := rfl
@[simp] theorem State.setSr_searchPending (v : StatusReg) : (s.setSr v).searchPending = s.searchPending := rfl
@[simp] theorem State.setSr_params (v : StatusReg) : (s.setSr v).params = s.params := rfl
@[simp] theorem State.setSr_ops (v : StatusReg) : (s.setSr v).ops = s.ops := rfl
@[simp] theorem State.setSr_out (v : StatusReg) : (s.setSr v).out = s.out := rfl
@[simp] theorem State.setSr_cmdTag (v : StatusReg) : (s.setSr v).cmdTag = s.cmdTag := rfl

@[simp] theorem State.setReady_crcAcc (v : Bool) : (s.setReady v).crcAcc = s.crcAcc := rfl
@[simp] theorem State.setReady_family (v : Bool) : (s.setReady v).family = s.family := rfl
@[simp] theorem State.setReady_serial (v : Bool) : (s.setReady v).serial = s.serial := rfl
@[simp] theorem State.setReady_sr (v : Bool) : (s.setReady v).sr = s.sr := rfl
@[simp] theorem State.setReady_ready (v : Bool) : (s.setReady v).ready = v := rfl
@[simp] theorem State.setReady_searchPending (v : Bool) : (s.setReady v).searchPending = s.searchPending := rfl
@[simp] theorem State.setReady_params (v : Bool) : (s.setReady v).params = s.params := rfl
@[simp] theorem State.setReady_ops (v : Bool) : (s.setReady v).ops = s.ops := rfl
@[simp] theorem State.setReady_out (v : Bool) : (s.setReady v).out = s.out := rfl
@[simp] theorem State.setReady_cmdTag (v : Bool) : (s.setReady v).cmdTag = s.cmdTag := rfl

@[simp] theorem State.setSearchPending_crcAcc (v : Bool) : (s.setSearchPending v).crcAcc = s.crcAcc := rfl
@[simp] theorem State.setSearchPending_family (v : Bool) : (s.setSearchPending v).family = s.family := rfl
@[simp] theorem State.setSearchPending_serial (v : Bool) : (s.setSearchPending v).serial = s.serial := rfl
@[simp] theorem State.setSearchPending_sr (v : Bool) : (s.setSearchPending v).sr = s.sr := rfl
@[simp] theorem State.setSearchPending_ready (v : Bool) : (s.setSearchPending v).ready = s.ready := rfl
@[simp] theorem State.setSearchPending_searchPending (v : Bool) : (s.setSearchPending v).searchPending = v := rfl
@[simp] theorem State.setSearchPending_params (v : Bool) : (s.setSearchPending v).params = s.params := rfl
@[simp] theorem State.setSearchPending_ops (v : Bool) : (s.setSearchPending v).ops = s.ops := rfl
@[simp] theorem State.setSearchPending_out (v : Bool) : (s.setSearchPending v).out = s.out := rfl
@[simp] theorem State.setSearchPending_cmdTag (v : Bool) : (s.setSearchPending v).cmdTag = s.cmdTag := rfl

@[simp] theorem State.answer_crcAcc (r : Result) : (s.answer r).crcAcc = s.crcAcc := rfl
@[simp] theorem State.answer_family (r : Result) : (s.answer r).family = s.family := rfl
@[simp] theorem State.answer_serial (r : Result) : (s.answer r).serial = s.serial := rfl
@[simp] theorem State.answer_sr (r : Result) : (s.answer r).sr = s.sr := rfl
@[simp] theorem State.answer_ready (r : Result) : (s.answer r).ready = s.ready := rfl
@[simp] theorem State.answer_searchPending (r : Result) : (s.answer r).searchPending = s.searchPending := rfl
@[simp] theorem State.answer_params (r : Result) : (s.answer r).params = s.params := rfl
@[simp] theorem State.answer_ops (r : Result) : (s.answer r).ops = s.ops := rfl
@[simp] theorem State.answer_out (r : Result) : (s.answer r).out = r := rfl
@[simp] theorem State.answer_cmdTag (r : Result) : (s.answer r).cmdTag = none := rfl

@[simp] theorem State.answerTagged_crcAcc (t : CommTag) : (s.answerTagged t).crcAcc = s.crcAcc := rfl
@[simp] theorem State.answerTagged_family (t : CommTag) : (s.answerTagged t).family = s.family := rfl
@[simp] theorem State.answerTagged_serial (t : CommTag) : (s.answerTagged t).serial = s.serial := rfl
@[simp] theorem State.answerTagged_sr (t : CommTag) : (s.answerTagged t).sr = s.sr := rfl
@[simp] theorem State.answerTagged_ready (t : CommTag) : (s.answerTagged t).ready = s.ready := rfl
@[simp] theorem State.answerTagged_searchPending (t : CommTag) : (s.answerTagged t).searchPending = s.searchPending := rfl
@[simp] theorem State.answerTagged_params (t : CommTag) : (s.answerTagged t).params = s.params := rfl
@[simp] theorem State.answerTagged_ops (t : CommTag) : (s.answerTagged t).ops = s.ops := rfl
@[simp] theorem State.answerTagged_out (t : CommTag) : (s.answerTagged t).out = .ack := rfl
@[simp] theorem State.answerTagged_cmdTag (t : CommTag) : (s.answerTagged t).cmdTag = some (tagCode t) := rfl

@[simp] theorem State.resetBridge_crcAcc : s.resetBridge.crcAcc = s.crcAcc := rfl
@[simp] theorem State.resetBridge_family : s.resetBridge.family = s.family := rfl
@[simp] theorem State.resetBridge_serial : s.resetBridge.serial = s.serial := rfl
@[simp] theorem State.resetBridge_sr : s.resetBridge.sr = StatusReg.baseline := rfl
@[simp] theorem State.resetBridge_ready : s.resetBridge.ready = true := rfl
@[simp] theorem State.resetBridge_searchPending : s.resetBridge.searchPending = s.searchPending := rfl
@[simp] theorem State.resetBridge_params : s.resetBridge.params = s.params := rfl
@[simp] theorem State.resetBridge_ops : s.resetBridge.ops = s.ops := rfl
@[simp] theorem State.resetBridge_out : s.resetBridge.out = s.out := rfl
@[simp] theorem State.resetBridge_cmdTag : s.resetBridge.cmdTag = s.cmdTag := rfl

@[simp] theorem State.setSpue_crcAcc (e : Bool) : (s.setSpue e).crcAcc = s.crcAcc := rfl
@[simp] theorem State.setSpue_family (e : Bool) : (s.setSpue e).family = s.family := rfl
@[simp] theorem State.setSpue_serial (e : Bool) : (s.setSpue e).serial = s.serial := rfl
@[simp] theorem State.setSpue_sr (e : Bool) : (s.setSpue e).sr = { s.sr with spue := e } := rfl
@[simp] theorem State.setSpue_ready (e : Bool) : (s.setSpue e).ready = s.ready := rfl
@[simp] theorem State.setSpue_searchPending (e : Bool) : (s.setSpue e).searchPending = s.searchPending := rfl
@[simp] theorem State.setSpue_params (e : Bool) : (s.setSpue e).params = s.params := rfl
@[simp] theorem State.setSpue_ops (e : Bool) : (s.setSpue e).ops = s.ops := rfl
@[simp] theorem State.setSpue_out (e : Bool) : (s.setSpue e).out = s.out := rfl
@[simp] theorem State.setSpue_cmdTag (e : Bool) : (s.setSpue e).cmdTag = s.cmdTag := rfl

@[simp] theorem State.setSpce_crcAcc (e : Bool) : (s.setSpce e).crcAcc = s.crcAcc := rfl
@[simp] theorem State.setSpce_family (e : Bool) : (s.setSpce e).family = s.family := rfl
@[simp] theorem State.setSpce_serial (e : Bool) : (s.setSpce e).serial = s.serial := rfl
@[simp] theorem State.setSpce_sr (e : Bool) : (s.setSpce e).sr = { s.sr with spce := e } := rfl
@[simp] theorem State.setSpce_ready (e : Bool) : (s.setSpce e).ready = s.ready := rfl
@[simp] theorem State.setSpce_searchPending (e : Bool) : (s.setSpce e).searchPending = s.searchPending := rfl
@[simp] theorem State.setSpce_params (e : Bool) : (s.setSpce e).params = s.params := rfl
@[simp] theorem State.setSpce_ops (e : Bool) : (s.setSpce e).ops = s.ops := rfl
@[simp] theorem State.setSpce_out (e : Bool) : (s.setSpce e).out = s.out := rfl
@[simp] theorem State.setSpce_cmdTag (e : Bool) : (s.setSpce e).cmdTag = s.cmdTag := rfl

@[simp] theorem State.present_crcAcc (w : PortWord) : (s.present w).crcAcc = s.crcAcc := rfl
@[simp] theorem State.present_family (w : PortWord) : (s.present w).family = s.family := rfl
@[simp] theorem State.present_serial (w : PortWord) : (s.present w).serial = s.serial := rfl
@[simp] theorem State.present_sr (w : PortWord) : (s.present w).sr = s.sr := rfl
@[simp] theorem State.present_ready (w : PortWord) : (s.present w).ready = s.ready := rfl
@[simp] theorem State.present_searchPending (w : PortWord) : (s.present w).searchPending = s.searchPending := rfl
@[simp] theorem State.present_params (w : PortWord) : (s.present w).params = s.params := rfl
@[simp] theorem State.present_ops (w : PortWord) : (s.present w).ops = w :: s.ops := rfl
@[simp] theorem State.present_out (w : PortWord) : (s.present w).out = s.out := rfl
@[simp] theorem State.present_cmdTag (w : PortWord) : (s.present w).cmdTag = s.cmdTag := rfl

@[simp] theorem State.retain_crcAcc (v : StatusReg) : (s.retain v).crcAcc = s.crcAcc := by unfold State.retain; split <;> rfl
@[simp] theorem State.retain_family (v : StatusReg) : (s.retain v).family = s.family := by unfold State.retain; split <;> rfl
@[simp] theorem State.retain_serial (v : StatusReg) : (s.retain v).serial = s.serial := by unfold State.retain; split <;> rfl
@[simp] theorem State.retain_ready (v : StatusReg) : (s.retain v).ready = s.ready := by unfold State.retain; split <;> rfl
@[simp] theorem State.retain_searchPending (v : StatusReg) : (s.retain v).searchPending = s.searchPending := by unfold State.retain; split <;> rfl
@[simp] theorem State.retain_params (v : StatusReg) : (s.retain v).params = s.params := by unfold State.retain; split <;> rfl
@[simp] theorem State.retain_ops (v : StatusReg) : (s.retain v).ops = s.ops := by unfold State.retain; split <;> rfl
@[simp] theorem State.retain_out (v : StatusReg) : (s.retain v).out = s.out := by unfold State.retain; split <;> rfl
@[simp] theorem State.retain_cmdTag (v : StatusReg) : (s.retain v).cmdTag = s.cmdTag := by unfold State.retain; split <;> rfl

/-- A retained mode slot writes `SR` exactly when the parameter says so (43_command_shell.md R130). -/
theorem State.retain_sr (v : StatusReg) : (s.retain v).sr = if s.params.retainModeSlots then v else s.sr := by
  unfold State.retain; split <;> rfl

/-- A mode slot's write changes no field of the state but `SR`. -/
theorem State.retain_eq (v : StatusReg) : s.retain v = s.setSr (s.retain v).sr := by
  unfold State.retain; split <;> rfl

end Sys2Proof.Machine
end

