-- ==== Sys2Proof/Laws/Exec.lean ====
section
/-! SUPPORT. What the presentation of a word does, and that no meaning reads or writes the words still to come. -/

namespace Sys2Proof.Machine

/-- Everything `fetch` can answer: nothing when no word is presented, else the first word and the rest. -/
theorem fetch_cases (s : State) :
    (s.ops = [] ∧ fetch s = none) ∨ (∃ w rest, s.ops = w :: rest ∧ fetch s = some (w, { s with ops := rest })) := by
  unfold fetch
  split
  · next h => exact .inl ⟨h, rfl⟩
  · next w rest h => exact .inr ⟨w, rest, h, rfl⟩

/-- The word that is presented is the one fetched, and the state it is taken from is the one before. -/
theorem fetch_present (s : State) (w : PortWord) : fetch (s.present w) = some (w, s) := rfl

/-- An operation's effect does not depend on the words still to come and leaves them as they are. -/
theorem exec_ops (i : Instr) (s t : State) (ws : List PortWord) (h : exec i s = .next t) :
    exec i { s with ops := ws } = .next { t with ops := ws } := by
  have key : ∀ r : Bool, s.params.retainModeSlots = r →
      ∀ b : Bool, pollHasData s = b → exec i { s with ops := ws } = .next { t with ops := ws } := by
    intro r hr b hb
    unfold pollHasData at hb
    cases i <;> cases r <;> cases b <;>
      (simp only [exec, execCrcInit, execCrcByte, execCrcRead, execURsvdCrc, execRomRead, execURsvdRom, execSrReset,
        execSrSpue, execSrSpce, execSrSer, execURsvdUnit, execCtlReset, execCtlOther, execCommSearchAccess,
        execCommReadRedirect, execCommReadCrcProt, execCommWriteEprom, execCommWriteSram, execCommSetPath,
        execCommDoRelease, execCommReadStraight, execCommBlockIo, execCommMatchAccess, execCommByteIo,
        execCommOneWireReset, execCommPulse, execCommSetDuration, execCommErrorEscape, execCommNone, execModePulseEn,
        execModeSpeedChangeEn, execModeSpeed, execModeSpud, execModePdsrc, execModePpd, execModeLowt, execModeRect,
        execModeOther, execReqRsvd, execPollStatus, execPollData, State.retain, pollHasData, hr, hb] at h ⊢
       injection h with h; subst h; rfl)
  exact key _ rfl _ rfl

/-- One more step of the host's run, where the step answers a next state. -/
theorem core_run_succ (M : Host.Core) (k : Nat) (s t : M.State) (h : M.step s = .next t) : M.run (k + 1) s = M.run k t := by
  have e : M.run (k + 1) s = match M.step s with
      | .next u => M.run k u
      | .fault r => .fault r
      | .refused r => .refused r := rfl
  rw [e, h]

end Sys2Proof.Machine
end

