-- ==== Sys2Proof/Laws/Operands.lean ====
section
/-! SUPPORT. A field of a word built from fields is the field it was built from, and a word is built from its own fields;
which tag `commTag` answers. -/

namespace Sys2Proof.Machine

@[simp] theorem unitField_packUnit (u op : BitVec 2) (arg : Byte) : unitField (packUnit u op arg) = u := by
  unfold unitField packUnit; ext i hi; simp; grind

@[simp] theorem opField_packUnit (u op : BitVec 2) (arg : Byte) : opField (packUnit u op arg) = op := by
  unfold opField packUnit; ext i hi; simp; grind

@[simp] theorem argField_packUnit (u op : BitVec 2) (arg : Byte) : argField (packUnit u op arg) = arg := by
  unfold argField packUnit; ext i hi; simp; grind

@[simp] theorem packUnit_fields (w : BitVec 12) : packUnit (unitField w) (opField w) (argField w) = w := by
  unfold unitField opField argField packUnit; ext i hi; simp; grind

@[simp] theorem flagBit_packFlag (ign : BitVec 7) (e : Bool) : flagBit (packFlag ign e) = e := by
  unfold flagBit packFlag; rw [BitVec.getLsbD_append]; simp

@[simp] theorem flagRest_packFlag (ign : BitVec 7) (e : Bool) : flagRest (packFlag ign e) = ign := by
  unfold flagRest packFlag; ext i hi; simp; grind

@[simp] theorem packFlag_fields (arg : Byte) : packFlag (flagRest arg) (flagBit arg) = arg := by
  unfold flagRest flagBit packFlag; ext i hi; simp; grind

@[simp] theorem classField_packRequest (cls : Byte) (value index : Half) :
    classField (packRequest cls value index) = cls := by
  unfold classField packRequest; ext i hi; simp; grind

@[simp] theorem valueField_packRequest (cls : Byte) (value index : Half) :
    valueField (packRequest cls value index) = value := by
  unfold valueField packRequest; ext i hi; simp; grind

@[simp] theorem indexField_packRequest (cls : Byte) (value index : Half) :
    indexField (packRequest cls value index) = index := by
  unfold indexField packRequest; ext i hi; simp; grind

@[simp] theorem packRequest_fields (w : BitVec 40) : packRequest (classField w) (valueField w) (indexField w) = w := by
  unfold classField valueField indexField packRequest; ext i hi; simp; grind

/-- A mask on a word of format V is a mask on each of its fields. -/
theorem packRequest_and (c v i mc mv mi) :
    packRequest c v i &&& packRequest mc mv mi = packRequest (c &&& mc) (v &&& mv) (i &&& mi) := by
  unfold packRequest; ext k hk; simp; grind

/-- Two words of format V are one when their fields are. -/
theorem packRequest_inj (c v i c' v' i') : packRequest c v i = packRequest c' v' i' ↔ c = c' ∧ v = v' ∧ i = i' := by
  constructor
  · intro h
    exact ⟨by simpa using congrArg classField h, by simpa using congrArg valueField h,
      by simpa using congrArg indexField h⟩
  · rintro ⟨rfl, rfl, rfl⟩; rfl

/-- A mask on a word of format U is a mask on each of its fields. -/
theorem packUnit_and (u o a mu mo ma) :
    packUnit u o a &&& packUnit mu mo ma = packUnit (u &&& mu) (o &&& mo) (a &&& ma) := by
  unfold packUnit; ext k hk; simp; grind

/-- Two words of format U are one when their fields are. -/
theorem packUnit_inj (u o a u' o' a') : packUnit u o a = packUnit u' o' a' ↔ u = u' ∧ o = o' ∧ a = a' := by
  constructor
  · intro h
    exact ⟨by simpa using congrArg unitField h, by simpa using congrArg opField h,
      by simpa using congrArg argField h⟩
  · rintro ⟨rfl, rfl, rfl⟩; rfl

/-- A value matches a mask when the mask's bits are all among its own. -/
theorem maskMatches_iff (value m : Half) : maskMatches value m = true ↔ value &&& m = m := by
  simp [maskMatches]

/-- What `firstTag` can answer: `none` and no mask matches, or the tag of a row whose mask matches and before which none
does. -/
theorem firstTag_cases (rows : List (CommTag × Half)) (value : Half) :
    (firstTag rows value = .none ∧ ∀ p ∈ rows, ¬ value &&& p.2 = p.2) ∨
    (∃ l t m r, rows = l ++ (t, m) :: r ∧ firstTag rows value = t ∧ value &&& m = m ∧
      ∀ p ∈ l, ¬ value &&& p.2 = p.2) := by
  induction rows with
  | nil => exact .inl ⟨rfl, by simp⟩
  | cons p rest ih =>
    obtain ⟨t, m⟩ := p
    by_cases hm : value &&& m = m
    · exact .inr ⟨[], t, m, rest, rfl, by simp [firstTag, maskMatches, hm], hm, by simp⟩
    · have hf : firstTag ((t, m) :: rest) value = firstTag rest value := by simp [firstTag, maskMatches, hm]
      rw [hf]
      rcases ih with ⟨h, hn⟩ | ⟨l, t', m', r, rfl, h, hm', hl⟩
      · exact .inl ⟨h, by simpa [hm] using hn⟩
      · exact .inr ⟨(t, m) :: l, t', m', r, rfl, h, hm', by simpa [hm] using hl⟩

end Sys2Proof.Machine
end

