-- ==== Sys2Proof/Laws/PerInstr.lean ====
section
/-! SUPPORT. The family of statements made for each operation: its word goes to the port that 30_encoding.md R53 names. -/

namespace Sys2Proof.Laws.PortKept

/-- The word of an operation arrives on the port the table gives the operation, whatever the reset code. -/
def Statement (i : Instr) : Prop := ∀ code : Half, (encode code i).port = i.port

theorem crcInit (arg : Byte) : Statement (.crcInit arg) := fun _ => rfl
theorem crcByte (b : Byte) : Statement (.crcByte b) := fun _ => rfl
theorem crcRead (arg : Byte) : Statement (.crcRead arg) := fun _ => rfl
theorem uRsvdCrc (arg : Byte) : Statement (.uRsvdCrc arg) := fun _ => rfl
theorem romRead (arg : Byte) : Statement (.romRead arg) := fun _ => rfl
theorem uRsvdRom (op : BitVec 2) (arg : Byte) : Statement (.uRsvdRom op arg) := fun _ => rfl
theorem srReset (arg : Byte) : Statement (.srReset arg) := fun _ => rfl
theorem srSpue (ign : BitVec 7) (e : Bool) : Statement (.srSpue ign e) := fun _ => rfl
theorem srSpce (ign : BitVec 7) (e : Bool) : Statement (.srSpce ign e) := fun _ => rfl
theorem srSer (arg : Byte) : Statement (.srSer arg) := fun _ => rfl
theorem uRsvdUnit (op : BitVec 2) (arg : Byte) : Statement (.uRsvdUnit op arg) := fun _ => rfl
theorem ctlReset (index : Half) : Statement (.ctlReset index) := fun _ => rfl
theorem ctlOther (value index : Half) : Statement (.ctlOther value index) := fun _ => rfl
theorem commSearchAccess (value index : Half) : Statement (.commSearchAccess value index) := fun _ => rfl
theorem commReadRedirect (value index : Half) : Statement (.commReadRedirect value index) := fun _ => rfl
theorem commReadCrcProt (value index : Half) : Statement (.commReadCrcProt value index) := fun _ => rfl
theorem commWriteEprom (value index : Half) : Statement (.commWriteEprom value index) := fun _ => rfl
theorem commWriteSram (value index : Half) : Statement (.commWriteSram value index) := fun _ => rfl
theorem commSetPath (value index : Half) : Statement (.commSetPath value index) := fun _ => rfl
theorem commDoRelease (value index : Half) : Statement (.commDoRelease value index) := fun _ => rfl
theorem commReadStraight (value index : Half) : Statement (.commReadStraight value index) := fun _ => rfl
theorem commBlockIo (value index : Half) : Statement (.commBlockIo value index) := fun _ => rfl
theorem commMatchAccess (value index : Half) : Statement (.commMatchAccess value index) := fun _ => rfl
theorem commByteIo (value index : Half) : Statement (.commByteIo value index) := fun _ => rfl
theorem commOneWireReset (value index : Half) : Statement (.commOneWireReset value index) := fun _ => rfl
theorem commPulse (value index : Half) : Statement (.commPulse value index) := fun _ => rfl
theorem commSetDuration (value index : Half) : Statement (.commSetDuration value index) := fun _ => rfl
theorem commErrorEscape (value index : Half) : Statement (.commErrorEscape value index) := fun _ => rfl
theorem commNone (value index : Half) : Statement (.commNone value index) := fun _ => rfl
theorem modePulseEn (index : Half) : Statement (.modePulseEn index) := fun _ => rfl
theorem modeSpeedChangeEn (index : Half) : Statement (.modeSpeedChangeEn index) := fun _ => rfl
theorem modeSpeed (index : Half) : Statement (.modeSpeed index) := fun _ => rfl
theorem modeSpud (index : Half) : Statement (.modeSpud index) := fun _ => rfl
theorem modePdsrc (index : Half) : Statement (.modePdsrc index) := fun _ => rfl
theorem modePpd (index : Half) : Statement (.modePpd index) := fun _ => rfl
theorem modeLowt (index : Half) : Statement (.modeLowt index) := fun _ => rfl
theorem modeRect (index : Half) : Statement (.modeRect index) := fun _ => rfl
theorem modeOther (value index : Half) : Statement (.modeOther value index) := fun _ => rfl
theorem reqRsvd (cls : Byte) (value index : Half) : Statement (.reqRsvd cls value index) := fun _ => rfl
theorem pollStatus : Statement (.pollStatus) := fun _ => rfl
theorem pollData : Statement (.pollData) := fun _ => rfl

end Sys2Proof.Laws.PortKept
end

