-- ==== Sys2Proof/Tests/Slice0.lean ====
section
/-! SUPPORT. Tests: ill-formed terms, words written out from the encodings of spec/, one-step vectors of
95_test_vectors.md, and a witness for the hypotheses of each statement that has some. -/

namespace Sys2Proof.Tests

open Sys2Proof Sys2Proof.Machine Sys2Proof.Spec

/-! ### Helpers -/

/-- A block after power-on, with the identity of program 4 of 95_test_vectors.md. -/
def fresh : State := State.powerOn standardParams 0x28 #v[0x01, 0x02, 0x03, 0x04, 0x05, 0x06]

/-- The same with the identity of program 1. -/
def fresh1 : State := State.powerOn standardParams 0x02 #v[0x1C, 0xB8, 0x01, 0x00, 0x00, 0x00]

/-- The block of program 5: both extensions on. -/
def extended : State := { fresh with params := { standardParams with retainModeSlots := true, payloadMode := .rom } }

/-- A block with the given flags, `READY` and `SEARCHPENDING`. -/
def flagged (spue spce ready pending : Bool) : State :=
  { fresh with sr := { fresh.sr with spue := spue, spce := spce }, ready := ready, searchPending := pending }

/-- The register of the first row of 95_test_vectors.md section 2.3. -/
def odd : StatusReg := ⟨true, true, 0x02, 0x7F, 0x00, 0x0A, 0xFF⟩

/-- What `f` sees of the state an operation leads to. -/
def after {α : Type} (i : Instr) (s : State) (f : State → α) : Option α :=
  match exec i s with
  | .next t => some (f t)
  | .fault _ => none
  | .refused _ => none

/-- What `f` sees of the state a step leads to. -/
def stepped {α : Type} (s : State) (f : State → α) : Option α :=
  match step s with
  | .next t => some (f t)
  | .fault _ => none
  | .refused _ => none

/-! ### Ill-formed terms, one for each check of WellFormed, and well-formed neighbours -/

theorem test_illformed_uRsvdRom : Instr.wellFormed 0x0000 (.uRsvdRom 0b00 0x00) = false := by decide

theorem test_illformed_ctlOther : Instr.wellFormed 0x1234 (.ctlOther 0x1234 0x0000) = false := by decide

theorem test_illformed_modeOther : Instr.wellFormed 0x0000 (.modeOther 0x0007 0x0000) = false := by decide

theorem test_illformed_reqRsvd : Instr.wellFormed 0x0000 (.reqRsvd 0x02 0x0000 0x0000) = false := by decide

/-- 0x00E4 selects WRITE_EPROM. -/
theorem test_illformed_commSearchAccess : Instr.wellFormed 0x0000 (.commSearchAccess 0x00E4 0x0000) = false := by decide

/-- 0x21F4 selects SEARCH_ACCESS (R113). -/
theorem test_illformed_commReadRedirect : Instr.wellFormed 0x0000 (.commReadRedirect 0x21F4 0x0000) = false := by decide

/-- 0x00F4 selects SEARCH_ACCESS. -/
theorem test_illformed_commReadCrcProt : Instr.wellFormed 0x0000 (.commReadCrcProt 0x00F4 0x0000) = false := by decide

/-- 0x00D4 selects READ_CRC_PROT. -/
theorem test_illformed_commWriteEprom : Instr.wellFormed 0x0000 (.commWriteEprom 0x00D4 0x0000) = false := by decide

/-- 0x00B0 selects READ_STRAIGHT. -/
theorem test_illformed_commWriteSram : Instr.wellFormed 0x0000 (.commWriteSram 0x00B0 0x0000) = false := by decide

/-- 0x00B2 selects WRITE_SRAM. -/
theorem test_illformed_commSetPath : Instr.wellFormed 0x0000 (.commSetPath 0x00B2 0x0000) = false := by decide

/-- 0x2092 selects READ_STRAIGHT (R118). -/
theorem test_illformed_commDoRelease : Instr.wellFormed 0x0000 (.commDoRelease 0x2092 0x0000) = false := by decide

/-- 0x00A2 selects SET_PATH. -/
theorem test_illformed_commReadStraight : Instr.wellFormed 0x0000 (.commReadStraight 0x00A2 0x0000) = false := by decide

/-- 0x00F4 selects SEARCH_ACCESS. -/
theorem test_illformed_commBlockIo : Instr.wellFormed 0x0000 (.commBlockIo 0x00F4 0x0000) = false := by decide

/-- 0x0074 selects BLOCK_IO. -/
theorem test_illformed_commMatchAccess : Instr.wellFormed 0x0000 (.commMatchAccess 0x0074 0x0000) = false := by decide

/-- 0x0042 selects ONE_WIRE_RESET. -/
theorem test_illformed_commByteIo : Instr.wellFormed 0x0000 (.commByteIo 0x0042 0x0000) = false := by decide

/-- 0x0052 selects BYTE_IO. -/
theorem test_illformed_commOneWireReset : Instr.wellFormed 0x0000 (.commOneWireReset 0x0052 0x0000) = false := by decide

/-- 0x0074 selects BLOCK_IO. -/
theorem test_illformed_commPulse : Instr.wellFormed 0x0000 (.commPulse 0x0074 0x0000) = false := by decide

/-- 0x0052 selects BYTE_IO. -/
theorem test_illformed_commSetDuration : Instr.wellFormed 0x0000 (.commSetDuration 0x0052 0x0000) = false := by decide

/-- 0x0600 selects NONE (R126). -/
theorem test_illformed_commErrorEscape : Instr.wellFormed 0x0000 (.commErrorEscape 0x0600 0x0000) = false := by decide

/-- 0x0601 selects ERROR_ESCAPE. -/
theorem test_illformed_commNone : Instr.wellFormed 0x0000 (.commNone 0x0601 0x0000) = false := by decide

theorem test_wellformed_bounds :
    Instr.wellFormed 0x0000 (.uRsvdRom 0b01 0x00) = true ∧ Instr.wellFormed 0x0000 (.ctlOther 0x0001 0x0000) = true ∧
    Instr.wellFormed 0x0000 (.modeOther 0x0008 0x0000) = true ∧ Instr.wellFormed 0x0000 (.modeOther 0xFFFF 0x0000) = true ∧
    Instr.wellFormed 0x0000 (.reqRsvd 0x03 0x0000 0x0000) = true ∧
    Instr.wellFormed 0x0000 (.reqRsvd 0xFF 0xFFFF 0xFFFF) = true := by decide

/-! ### Words written out from 30_encoding.md: format U as unit, op, arg (R55 to R59) -/

theorem test_decode_crcInit : decodeTableWord 16 0b000011111111 = some (.crcInit 0xFF) := by decide

theorem test_decode_crcByte : decodeTableWord 16 0b000110100010 = some (.crcByte 0xA2) := by decide

theorem test_decode_crcRead : decodeTableWord 16 0b001010101011 = some (.crcRead 0xAB) := by decide

theorem test_decode_uRsvdCrc : decodeTableWord 16 0b001111111111 = some (.uRsvdCrc 0xFF) := by decide

theorem test_decode_romRead : decodeTableWord 16 0b010011111111 = some (.romRead 0xFF) := by decide

theorem test_decode_uRsvdRom : decodeTableWord 16 0b010100000000 = some (.uRsvdRom 0b01 0x00) := by decide

theorem test_decode_uRsvdRom_last : decodeTableWord 16 0b011111111111 = some (.uRsvdRom 0b11 0xFF) := by decide

theorem test_decode_srReset : decodeTableWord 16 0b100000000000 = some (.srReset 0x00) := by decide

theorem test_decode_srSpue : decodeTableWord 16 0b100111111110 = some (.srSpue 0b1111111 false) := by decide

theorem test_decode_srSpce : decodeTableWord 16 0b101000000001 = some (.srSpce 0b0000000 true) := by decide

theorem test_decode_srSer : decodeTableWord 16 0b101100000001 = some (.srSer 0x01) := by decide

theorem test_decode_uRsvdUnit : decodeTableWord 16 0b110001010101 = some (.uRsvdUnit 0b00 0x55) := by decide

theorem test_decode_uRsvdUnit_last : decodeTableWord 16 0b111111111111 = some (.uRsvdUnit 0b11 0xFF) := by decide

/-! Format V as class, value, index (R60 to R64). -/

theorem test_decode_ctlReset : decodeTableWord 40 0x000000FFFF = some (.ctlReset 0xFFFF) := by decide

theorem test_decode_ctlOther : decodeTableWord 40 0x0000010000 = some (.ctlOther 0x0001 0x0000) := by decide

theorem test_decode_commSearchAccess : decodeTableWord 40 0x0100F41234 = some (.commSearchAccess 0x00F4 0x1234) := by decide

theorem test_decode_commSearchAccess_superset : decodeTableWord 40 0x01FFFF0000 = some (.commSearchAccess 0xFFFF 0x0000) := by decide

theorem test_decode_commReadRedirect : decodeTableWord 40 0x0121E41234 = some (.commReadRedirect 0x21E4 0x1234) := by decide

theorem test_decode_commReadRedirect_superset : decodeTableWord 40 0x0121E50000 = some (.commReadRedirect 0x21E5 0x0000) := by decide

theorem test_decode_commReadCrcProt : decodeTableWord 40 0x0100D41234 = some (.commReadCrcProt 0x00D4 0x1234) := by decide

theorem test_decode_commWriteEprom : decodeTableWord 40 0x0100C41234 = some (.commWriteEprom 0x00C4 0x1234) := by decide

theorem test_decode_commWriteEprom_superset : decodeTableWord 40 0x0100E40000 = some (.commWriteEprom 0x00E4 0x0000) := by decide

theorem test_decode_commWriteSram : decodeTableWord 40 0x0100B21234 = some (.commWriteSram 0x00B2 0x1234) := by decide

theorem test_decode_commSetPath : decodeTableWord 40 0x0100A21234 = some (.commSetPath 0x00A2 0x1234) := by decide

theorem test_decode_commDoRelease : decodeTableWord 40 0x0160921234 = some (.commDoRelease 0x6092 0x1234) := by decide

theorem test_decode_commReadStraight : decodeTableWord 40 0x0100801234 = some (.commReadStraight 0x0080 0x1234) := by decide

theorem test_decode_commReadStraight_superset : decodeTableWord 40 0x0140920000 = some (.commReadStraight 0x4092 0x0000) := by decide

theorem test_decode_commBlockIo : decodeTableWord 40 0x0100741234 = some (.commBlockIo 0x0074 0x1234) := by decide

theorem test_decode_commMatchAccess : decodeTableWord 40 0x0100641234 = some (.commMatchAccess 0x0064 0x1234) := by decide

theorem test_decode_commByteIo : decodeTableWord 40 0x0100521234 = some (.commByteIo 0x0052 0x1234) := by decide

theorem test_decode_commOneWireReset : decodeTableWord 40 0x0100421234 = some (.commOneWireReset 0x0042 0x1234) := by decide

theorem test_decode_commPulse : decodeTableWord 40 0x0100301234 = some (.commPulse 0x0030 0x1234) := by decide

theorem test_decode_commSetDuration : decodeTableWord 40 0x0100121234 = some (.commSetDuration 0x0012 0x1234) := by decide

theorem test_decode_commErrorEscape : decodeTableWord 40 0x0106011234 = some (.commErrorEscape 0x0601 0x1234) := by decide

theorem test_decode_commNone : decodeTableWord 40 0x0100001234 = some (.commNone 0x0000 0x1234) := by decide

theorem test_decode_commNone_superset : decodeTableWord 40 0x0106000000 = some (.commNone 0x0600 0x0000) := by decide

theorem test_decode_modePulseEn : decodeTableWord 40 0x0200000102 = some (.modePulseEn 0x0102) := by decide

theorem test_decode_modeSpeedChangeEn : decodeTableWord 40 0x0200010102 = some (.modeSpeedChangeEn 0x0102) := by decide

theorem test_decode_modeSpeed : decodeTableWord 40 0x0200020102 = some (.modeSpeed 0x0102) := by decide

theorem test_decode_modeSpud : decodeTableWord 40 0x0200030102 = some (.modeSpud 0x0102) := by decide

theorem test_decode_modePdsrc : decodeTableWord 40 0x0200040102 = some (.modePdsrc 0x0102) := by decide

theorem test_decode_modePpd : decodeTableWord 40 0x0200050102 = some (.modePpd 0x0102) := by decide

theorem test_decode_modeLowt : decodeTableWord 40 0x0200060102 = some (.modeLowt 0x0102) := by decide

theorem test_decode_modeRect : decodeTableWord 40 0x0200070102 = some (.modeRect 0x0102) := by decide

theorem test_decode_modeOther : decodeTableWord 40 0x0200080002 = some (.modeOther 0x0008 0x0002) := by decide

theorem test_decode_modeOther_high : decodeTableWord 40 0x0201000002 = some (.modeOther 0x0100 0x0002) := by decide

theorem test_decode_reqRsvd : decodeTableWord 40 0x0300F40000 = some (.reqRsvd 0x03 0x00F4 0x0000) := by decide

theorem test_decode_reqRsvd_last : decodeTableWord 40 0xFFFFFFFFFF = some (.reqRsvd 0xFF 0xFFFF 0xFFFF) := by decide

/-! Format P (R65), and bits that are no word of a format. -/

theorem test_decode_pollStatus : decodeTableWord 8 0b0 = some (.pollStatus) := by decide

theorem test_decode_pollData : decodeTableWord 8 0b1 = some (.pollData) := by decide

theorem test_decode_refused : decodeTableWord 16 0x1000 = none ∧ decodeTableWord 8 2 = none ∧
    decodeTableWord 40 0x10000000000 = none ∧ decodeTableWord 24 0 = none ∧
    portWordOf 8 2 = .error .bitAboveFormat ∧ portWordOf 24 0 = .error .noSuchFormat := by
  refine ⟨by decide, by decide, by decide, by decide, rfl, rfl⟩

/-- The opcode table's rows select the mnemonics of 30_encoding.md R53 (words of 95_test_vectors.md). -/
theorem test_table_rows : tableMnemonic (.unit 0x5FF) = some "U.RSVD" ∧ tableMnemonic (.unit 0x4FF) = some "ROM.READ" ∧
    tableMnemonic (.control 0x0121F40000) = some "REQ.COMM.SEARCH_ACCESS" ∧
    tableMnemonic (.control 0x0201000002) = some "REQ.MODE.OTHER" ∧
    tableMnemonic (.control 0x8000000002) = some "REQ.RSVD" := by decide

/-! ### One-step vectors: unit CRC (95_test_vectors.md section 2.1) -/

theorem test_crcInit :
    after (.crcInit 0xFF) { fresh with crcAcc := 0xA2 } (fun t => (t.crcAcc, t.out)) = some (0x00, .none) := by decide

theorem test_crcByte :
    after (.crcByte 0x1C) { fresh with crcAcc := 0xBC } (fun t => (t.crcAcc, t.out)) = some (0xAF, .none) := by decide

theorem test_crcByte_self :
    after (.crcByte 0xA2) { fresh with crcAcc := 0xA2 } (fun t => (t.crcAcc, t.out)) = some (0x00, .none) := by decide

theorem test_crcRead :
    after (.crcRead 0xAB) { fresh with crcAcc := 0x9E } (fun t => (t.crcAcc, t.out)) =
      some (0x9E, .bytes .unit [0x9E]) := by decide

theorem test_crc8_rom :
    crc8 dowTable [0x02, 0x1C, 0xB8, 0x01, 0x00, 0x00, 0x00] = 0xA2 := by decide

theorem test_crc8_check_string :
    crc8 dowTable [0x31, 0x32, 0x33, 0x34, 0x35, 0x36, 0x37, 0x38, 0x39] = 0xA1 := by decide

/-! Unit ROM (section 2.2). -/

theorem test_romRead :
    after (.romRead 0xFF) { fresh1 with crcAcc := 0x5E } (fun t => (t.out, t.crcAcc)) =
      some (.bytes .unit [0xA2, 0x1C, 0xB8, 0x01, 0x00, 0x00, 0x00, 0x02], 0x5E) := by decide

theorem test_romRead_28 :
    after (.romRead 0x00) fresh State.out =
      some (.bytes .unit [0x9E, 0x01, 0x02, 0x03, 0x04, 0x05, 0x06, 0x28]) := by decide

/-! Unit SR (section 2.3). -/

theorem test_srReset :
    after (.srReset 0x00) { fresh with sr := odd } (fun t => (t.sr, t.ready, t.searchPending, t.out)) =
      some (⟨false, false, 0x00, 0x20, 0x05, 0x04, 0x04⟩, true, false, .none) := by decide

theorem test_srReset_pending :
    after (.srReset 0x00) (flagged true false true true) (fun t => (t.sr, t.ready, t.searchPending, t.out)) =
      some (⟨false, false, 0x00, 0x20, 0x05, 0x04, 0x04⟩, true, true, .none) := by decide

theorem test_srSpue_clear :
    after (.srSpue 0b1111111 false) (flagged true true false false) (fun t => (t.sr.spue, t.sr.spce, t.out)) =
      some (false, true, .none) := by decide

theorem test_srSpue_set :
    after (.srSpue 0b0000000 true) fresh (fun t => (t.sr.spue, t.sr.spce, t.out)) = some (true, false, .none) := by decide

theorem test_srSpce_set :
    after (.srSpce 0b0000000 true) (flagged true false false false) (fun t => (t.sr.spue, t.sr.spce, t.out)) =
      some (true, true, .none) := by decide

theorem test_srSpce_clear :
    after (.srSpce 0b0000000 false) (flagged false true false false) (fun t => (t.sr.spue, t.sr.spce, t.out)) =
      some (false, false, .none) := by decide

theorem test_srSer :
    after (.srSer 0x00) { fresh with sr := ⟨false, true, 0x02, 0x40, 0x03, 0x07, 0x01⟩ } State.out =
      some (.bytes .unit [0x04, 0x02, 0x40, 0x00, 0x03, 0x07, 0x01, 0x00]) := by decide

theorem test_srSer_spue :
    after (.srSer 0x00) (flagged true false false false) State.out =
      some (.bytes .unit [0x01, 0x00, 0x20, 0x00, 0x05, 0x04, 0x04, 0x00]) := by decide

theorem test_uRsvdCrc :
    after (.uRsvdCrc 0xFF) { fresh with sr := odd, crcAcc := 0x5E } (fun t => (t.sr, t.crcAcc, t.ready, t.out)) =
      some (odd, 0x5E, false, .none) := by decide

theorem test_uRsvdRom :
    after (.uRsvdRom 0b01 0xFF) { fresh with sr := odd, crcAcc := 0x5E } (fun t => (t.sr, t.crcAcc, t.ready, t.out)) =
      some (odd, 0x5E, false, .none) := by decide

theorem test_uRsvdUnit :
    after (.uRsvdUnit 0b00 0x55) { fresh with sr := odd, crcAcc := 0x5E } (fun t => (t.sr, t.crcAcc, t.ready, t.out)) =
      some (odd, 0x5E, false, .none) := by decide

/-! Control class (section 2.4). -/

theorem test_ctlReset_pending :
    after (.ctlReset 0xFFFF) (flagged false true true true) (fun t => (t.sr, t.ready, t.searchPending, t.out)) =
      some (⟨false, false, 0x00, 0x20, 0x05, 0x04, 0x04⟩, true, true, .ack) := by decide

theorem test_ctlReset_power_on :
    after (.ctlReset 0x0000) fresh (fun t => (t.sr, t.ready, t.searchPending, t.out)) =
      some (⟨false, false, 0x00, 0x20, 0x05, 0x04, 0x04⟩, true, false, .ack) := by decide

theorem test_ctlOther :
    after (.ctlOther 0xFFFF 0x0000) { fresh with sr := odd } (fun t => (t.sr, t.ready, t.searchPending, t.out)) =
      some (odd, false, false, .ack) := by decide

/-! Communication class (section 2.5). -/

theorem test_commSearchAccess_ready :
    after (.commSearchAccess 0xFFFF 0x1234) (flagged false false true false) (fun t => (t.ready, t.searchPending, t.cmdTag, t.out)) =
      some (true, true, some 0, .ack) := by decide

theorem test_commSearchAccess_unready :
    after (.commSearchAccess 0x00F4 0x0000) fresh (fun t => (t.ready, t.searchPending, t.cmdTag, t.out)) =
      some (false, false, some 0, .ack) := by decide

theorem test_commReadRedirect :
    after (.commReadRedirect 0x21E4 0x0000) { fresh with sr := odd } (fun t => (t.sr, t.ready, t.searchPending, t.cmdTag, t.out)) =
      some (odd, false, false, some 1, .ack) := by decide

theorem test_commReadCrcProt :
    after (.commReadCrcProt 0x00D4 0x0000) { fresh with sr := odd } (fun t => (t.sr, t.ready, t.searchPending, t.cmdTag, t.out)) =
      some (odd, false, false, some 2, .ack) := by decide

theorem test_commWriteEprom :
    after (.commWriteEprom 0x00C4 0x0000) { fresh with sr := odd } (fun t => (t.sr, t.ready, t.searchPending, t.cmdTag, t.out)) =
      some (odd, false, false, some 3, .ack) := by decide

theorem test_commWriteSram :
    after (.commWriteSram 0x00B2 0x0000) { fresh with sr := odd } (fun t => (t.sr, t.ready, t.searchPending, t.cmdTag, t.out)) =
      some (odd, false, false, some 4, .ack) := by decide

theorem test_commSetPath :
    after (.commSetPath 0x00A2 0x0000) { fresh with sr := odd } (fun t => (t.sr, t.ready, t.searchPending, t.cmdTag, t.out)) =
      some (odd, false, false, some 5, .ack) := by decide

theorem test_commDoRelease :
    after (.commDoRelease 0x6092 0x0000) { fresh with sr := odd } (fun t => (t.sr, t.ready, t.searchPending, t.cmdTag, t.out)) =
      some (odd, false, false, some 6, .ack) := by decide

theorem test_commReadStraight :
    after (.commReadStraight 0x0080 0x0000) { fresh with sr := odd } (fun t => (t.sr, t.ready, t.searchPending, t.cmdTag, t.out)) =
      some (odd, false, false, some 7, .ack) := by decide

theorem test_commBlockIo :
    after (.commBlockIo 0x0074 0x0000) { fresh with sr := odd } (fun t => (t.sr, t.ready, t.searchPending, t.cmdTag, t.out)) =
      some (odd, false, false, some 8, .ack) := by decide

theorem test_commMatchAccess :
    after (.commMatchAccess 0x0064 0x0000) { fresh with sr := odd } (fun t => (t.sr, t.ready, t.searchPending, t.cmdTag, t.out)) =
      some (odd, false, false, some 9, .ack) := by decide

theorem test_commByteIo :
    after (.commByteIo 0x0052 0x0000) { fresh with sr := odd } (fun t => (t.sr, t.ready, t.searchPending, t.cmdTag, t.out)) =
      some (odd, false, false, some 10, .ack) := by decide

theorem test_commOneWireReset :
    after (.commOneWireReset 0x0042 0x0000) { fresh with sr := odd } (fun t => (t.sr, t.ready, t.searchPending, t.cmdTag, t.out)) =
      some (odd, false, false, some 11, .ack) := by decide

theorem test_commPulse :
    after (.commPulse 0x0030 0x0000) { fresh with sr := odd } (fun t => (t.sr, t.ready, t.searchPending, t.cmdTag, t.out)) =
      some (odd, false, false, some 12, .ack) := by decide

theorem test_commSetDuration :
    after (.commSetDuration 0x0012 0x0000) { fresh with sr := odd } (fun t => (t.sr, t.ready, t.searchPending, t.cmdTag, t.out)) =
      some (odd, false, false, some 13, .ack) := by decide

theorem test_commErrorEscape :
    after (.commErrorEscape 0x0601 0x0000) { fresh with sr := odd } (fun t => (t.sr, t.ready, t.searchPending, t.cmdTag, t.out)) =
      some (odd, false, false, some 14, .ack) := by decide

theorem test_commNone :
    after (.commNone 0x0000 0x0000) { fresh with sr := odd } (fun t => (t.sr, t.ready, t.searchPending, t.cmdTag, t.out)) =
      some (odd, false, false, some 15, .ack) := by decide

/-! Mode class (section 2.6). -/

theorem test_modePulseEn_wide :
    after (.modePulseEn 0x0102) (flagged true true false false) (fun t => (t.sr.spue, t.sr.spce, t.out)) =
      some (false, true, .ack) := by decide

theorem test_modePulseEn_set :
    after (.modePulseEn 0x0002) fresh (fun t => (t.sr.spue, t.sr.spce, t.out)) = some (true, false, .ack) := by decide

theorem test_modeSpeedChangeEn_set :
    after (.modeSpeedChangeEn 0x0001) (flagged true false false false) (fun t => (t.sr.spue, t.sr.spce, t.out)) =
      some (true, true, .ack) := by decide

theorem test_modeSpeedChangeEn_other :
    after (.modeSpeedChangeEn 0x0002) (flagged true true false false) (fun t => (t.sr.spue, t.sr.spce, t.out)) =
      some (true, false, .ack) := by decide

theorem test_modeSpeed_retained :
    after (.modeSpeed 0x0002) extended (fun t => (t.sr, t.out)) =
      some (⟨false, false, 0x02, 0x20, 0x05, 0x04, 0x04⟩, .ack) := by decide

theorem test_modeSpeed_dropped :
    after (.modeSpeed 0x0002) fresh (fun t => (t.sr, t.out)) = some (⟨false, false, 0x00, 0x20, 0x05, 0x04, 0x04⟩, .ack) := by decide

theorem test_modeSpud_retained :
    after (.modeSpud 0x0140) extended (fun t => (t.sr, t.out)) =
      some (⟨false, false, 0x00, 0x40, 0x05, 0x04, 0x04⟩, .ack) := by decide

theorem test_modeSpud_dropped :
    after (.modeSpud 0x0140) fresh (fun t => (t.sr, t.out)) = some (⟨false, false, 0x00, 0x20, 0x05, 0x04, 0x04⟩, .ack) := by decide

theorem test_modePdsrc_retained :
    after (.modePdsrc 0x0003) extended (fun t => (t.sr, t.out)) =
      some (⟨false, false, 0x00, 0x20, 0x03, 0x04, 0x04⟩, .ack) := by decide

theorem test_modePdsrc_dropped :
    after (.modePdsrc 0x0003) fresh (fun t => (t.sr, t.out)) = some (⟨false, false, 0x00, 0x20, 0x05, 0x04, 0x04⟩, .ack) := by decide

theorem test_modeLowt_retained :
    after (.modeLowt 0x0007) extended (fun t => (t.sr, t.out)) =
      some (⟨false, false, 0x00, 0x20, 0x05, 0x07, 0x04⟩, .ack) := by decide

theorem test_modeLowt_dropped :
    after (.modeLowt 0x0007) fresh (fun t => (t.sr, t.out)) = some (⟨false, false, 0x00, 0x20, 0x05, 0x04, 0x04⟩, .ack) := by decide

theorem test_modeRect_retained :
    after (.modeRect 0x0001) extended (fun t => (t.sr, t.out)) =
      some (⟨false, false, 0x00, 0x20, 0x05, 0x04, 0x01⟩, .ack) := by decide

theorem test_modeRect_dropped :
    after (.modeRect 0x0001) fresh (fun t => (t.sr, t.out)) = some (⟨false, false, 0x00, 0x20, 0x05, 0x04, 0x04⟩, .ack) := by decide

theorem test_modePpd :
    after (.modePpd 0x0040) extended (fun t => (t.sr, t.out)) = some (⟨false, false, 0x00, 0x20, 0x05, 0x04, 0x04⟩, .ack) := by decide

theorem test_modeOther :
    after (.modeOther 0x0008 0x0002) extended (fun t => (t.sr, t.out)) = some (⟨false, false, 0x00, 0x20, 0x05, 0x04, 0x04⟩, .ack) := by decide

/-! Reserved class and polls (sections 2.7, 2.8). -/

theorem test_reqRsvd :
    after (.reqRsvd 0x80 0x0000 0x0002) { fresh with sr := odd } (fun t => (t.sr, t.searchPending, t.cmdTag, t.out)) =
      some (odd, false, none, .none) := by decide

theorem test_pollStatus :
    after .pollStatus (flagged true true true true) (fun t => (t.ready, t.searchPending, t.out)) =
      some (true, true, .bytes .status [0x05, 0x00, 0x20, 0x00, 0x05, 0x04, 0x04, 0x00,
        0x20, 0x00, 0x00, 0x00, 0x00, 0x08, 0x00, 0x00, 0xA5]) := by decide

theorem test_pollStatus_unreachable :
    after .pollStatus (flagged false false false true) (fun t => (t.ready, t.searchPending, t.out)) = some (false, true, .none) := by decide

theorem test_pollData :
    after .pollData (flagged false false true true) (fun t => (t.ready, t.searchPending, t.out)) =
      some (true, false, .bytes .data [0x00, 0x01, 0x02, 0x03, 0x04, 0x05, 0x06, 0x07]) := by decide

theorem test_pollData_rom :
    after .pollData { extended with ready := true, searchPending := true } (fun t => (t.ready, t.searchPending, t.out)) =
      some (true, false, .bytes .data [0x9E, 0x01, 0x02, 0x03, 0x04, 0x05, 0x06, 0x28]) := by decide

/-! Stepping and the written form. -/

theorem test_step_runs_placed_word :
    stepped (fresh.withFetchWord 16 0x102) (fun t => (t.crcAcc, t.ops)) = some (0xBC, []) := by decide

theorem test_step_idle :
    stepped fresh (fun t => (t.crcAcc, t.out, t.ops)) = some (0x00, .none, []) := by decide

theorem test_step_order :
    stepped { fresh with ops := [.unit 0x102, .poll 1] } (fun t => (t.crcAcc, t.ops)) = some (0xBC, [.poll 1]) := by decide

theorem test_written :
    writtenText (.crcByte 0xA2) = "CRC.BYTE 0xA2" ∧ writtenText (.req 0x03 0x00F4 0x1234) = "REQ 0x03, 0x00F4, 0x1234" ∧
    writtenText (.reqMode 0x0000 0x0002) = "REQ.MODE 0x0000, 0x0002" ∧ writtenText (.srSpue true) = "SR.SPUE 1" := by decide

theorem test_expand :
    (expand 0x0000 (.crc8 [0x02, 0x1C])).map assemble = [.unit 0x000, .unit 0x102, .unit 0x11C, .unit 0x200] ∧
    (expand 0x0000 .reset).map assemble = [.control 0x0000000000] ∧
    (expand 0x0000 .search).map assemble = [.control 0x0100F40000] ∧
    (expand 0x0000 (.pullup true)).map assemble = [.control 0x0200000002] ∧
    (expand 0x0000 (.spchg true)).map assemble = [.control 0x0200010001] := by decide

/-! ### Witnesses for the hypotheses of the statements -/

/-- DecodeOfEncodeIsIdentity: a well-formed term, also with a reset code of another implementation. -/
theorem witness_DecodeOfEncodeIsIdentity : Instr.wellFormed 0x0000 (.commWriteEprom 0x00E4 0xFFFF) = true ∧
    Instr.wellFormed 0x1234 (.ctlOther 0x0000 0x0000) = true := by decide

/-- StepPerformsPresentedOperation: a word presented, and none. -/
theorem witness_StepPerformsPresentedOperation :
    ({ fresh with ops := [.unit 0x102, .poll 1] } : State).ops = .unit 0x102 :: [.poll 1] ∧ fresh.ops = [] := ⟨rfl, rfl⟩

/-- PlacedWordRunsNext, one word of each format. -/
theorem witness_PlacedWordRunsNext : fresh.params.ctlResetCode = 0x0000 ∧ decodeTableWord 16 0x102 = some (.crcByte 0x02) ∧
    decodeTableWord 40 0x0100F40000 = some (.commSearchAccess 0x00F4 0x0000) ∧
    decodeTableWord 8 1 = some .pollData := by decide

/-- A check that evaluates, for `Selected`. -/
theorem selected_of (k : Nat) (v : Half) (h : ((maskOrder[k]?).all (fun m => v &&& m == m) &&
    (maskOrder.take k).all (fun m => v &&& m != m)) = true) : Selected k v := by
  rw [Bool.and_eq_true, Option.all_eq_true, List.all_eq_true] at h
  exact ⟨fun m hm => by simpa using h.1 m hm, fun m hm => by simpa using h.2 m hm⟩

/-- CommTagIsFirstMatchingMask and the two statements over the priorities: each mask value is selected at its own place, and
a value of 43_command_shell.md that no mask matches is selected at none. -/
theorem witness_Selected : Selected 0 0x00F4 ∧ Selected 1 0x21E4 ∧ Selected 2 0x00D4 ∧ Selected 3 0x00C4 ∧
    Selected 4 0x00B2 ∧ Selected 5 0x00A2 ∧ Selected 6 0x6092 ∧ Selected 7 0x0080 ∧ Selected 8 0x0074 ∧
    Selected 9 0x0064 ∧ Selected 10 0x0052 ∧ Selected 11 0x0042 ∧ Selected 12 0x0030 ∧ Selected 13 0x0012 ∧
    Selected 14 0x0601 ∧ Selected 15 0x0600 :=
  ⟨selected_of _ _ (by decide), selected_of _ _ (by decide), selected_of _ _ (by decide),
    selected_of _ _ (by decide), selected_of _ _ (by decide), selected_of _ _ (by decide),
    selected_of _ _ (by decide), selected_of _ _ (by decide), selected_of _ _ (by decide),
    selected_of _ _ (by decide), selected_of _ _ (by decide), selected_of _ _ (by decide),
    selected_of _ _ (by decide), selected_of _ _ (by decide), selected_of _ _ (by decide),
    selected_of _ _ (by decide)⟩

/-- The same at values of 95_test_vectors.md section 2.5 that are no mask value. -/
theorem witness_Selected_supersets : Selected 0 0xFFFF ∧ Selected 1 0x21E5 ∧ Selected 3 0x00E4 ∧ Selected 7 0x4092 ∧
    Selected 12 0x0032 ∧ Selected 15 0x0050 :=
  ⟨selected_of _ _ (by decide), selected_of _ _ (by decide), selected_of _ _ (by decide),
    selected_of _ _ (by decide), selected_of _ _ (by decide), selected_of _ _ (by decide)⟩

/-- EveryMaskSelectsItsOwnTag: the first and the last mask. -/
theorem witness_EveryMaskSelectsItsOwnTag : 0x00F4 ∈ maskOrder[0]? ∧ 0x0601 ∈ maskOrder[14]? := by decide

/-- ChecksumOfSelfCheckedIsZero, ChecksumPrefixAndLeadingZeros and RomCodeValidates: a table whose entry 0 is 0x00. -/
theorem witness_table_entry_zero : dowTable[0] = 0x00 := by decide

/-- ChecksumIsLinear: two sequences of equal length. -/
theorem witness_ChecksumIsLinear : ([0x01, 0x02] : List Byte).length = ([0xFF, 0x5E] : List Byte).length := rfl

/-- ChecksumStreamSurvivesInterleaving: the words of program 4 of 95_test_vectors.md between its first and its last. -/
theorem witness_ChecksumStreamSurvivesInterleaving :
    ∀ w ∈ ([.unit 0x128, .unit 0x400, .control 0x0000000000, .unit 0x102, .poll 1] : List PortWord),
      isCrcInit (decode fresh.params.ctlResetCode w) = false := by decide

/-- ReservedUnitCodesDoNothing: the bounds of `op`. -/
theorem witness_ReservedUnitCodesDoNothing : (0b01 : BitVec 2) ≠ 0b00 ∧ (0b11 : BitVec 2) ≠ 0b00 := by decide

/-- OtherControlOnlyAcknowledges: the bounds of `value`. -/
theorem witness_OtherControlOnlyAcknowledges : (0x0001 : Half) ≠ 0x0000 ∧ (0xFFFF : Half) ≠ 0x0000 := by decide

/-- SearchSetsPendingOnlyWhenReady, each clause. -/
theorem witness_SearchSetsPendingOnlyWhenReady : (0x00F4 : Half) &&& 0x00F4 = 0x00F4 ∧ (0xFFFF : Half) &&& 0x00F4 = 0x00F4 ∧
    (flagged false false true false).ready = true ∧ fresh.ready = false := by decide

/-- RetainableSlotsStoreLowByteOrNothing, each clause. -/
theorem witness_RetainableSlotsStoreLowByteOrNothing :
    extended.params.retainModeSlots = true ∧ fresh.params.retainModeSlots = false := ⟨rfl, rfl⟩

/-- SlotFiveAndOtherModesOnlyAcknowledge: the bounds of `value`. -/
theorem witness_SlotFiveAndOtherModesOnlyAcknowledge :
    0x0008 ≤ (0x0008 : Half).toNat ∧ 0x0008 ≤ (0xFFFF : Half).toNat := by decide

/-- ReservedClassIsNotSelected: the bounds of the class. -/
theorem witness_ReservedClassIsNotSelected : 0x03 ≤ (0x03 : Byte).toNat ∧ 0x03 ≤ (0xFF : Byte).toNat := by decide

/-- EveryDefinedRequestIsAcknowledged: a word of each of the three classes. -/
theorem witness_EveryDefinedRequestIsAcknowledged :
    ({ fresh with ops := [.control 0x00FFFF0000] } : State).ops = .control (0x00#8 ++ 0xFFFF#16 ++ 0x0000#16) :: [] ∧
    ({ fresh with ops := [.control 0x0106000000] } : State).ops = .control (0x01#8 ++ 0x0600#16 ++ 0x0000#16) :: [] ∧
    ({ fresh with ops := [.control 0x02FFFF0002] } : State).ops = .control (0x02#8 ++ 0xFFFF#16 ++ 0x0002#16) :: [] ∧
    (0x00 : Byte).toNat < 3 ∧ (0x01 : Byte).toNat < 3 ∧ (0x02 : Byte).toNat < 3 := by decide

/-- StatusPollReturnsReportWhilePending and DataPollReturnsPayloadAndConsumesSearch: each of the four flag combinations. -/
theorem witness_polls : ((flagged true false true true).ready = true ∧ (flagged true false true true).searchPending = true) ∧
    ¬(fresh.ready = true ∧ fresh.searchPending = true) ∧
    ¬((flagged false false true false).ready = true ∧ (flagged false false true false).searchPending = true) ∧
    ¬((flagged false false false true).ready = true ∧ (flagged false false false true).searchPending = true) := by decide

/-- ReadsRepeatExceptDataPoll: two reads of each kind in a row, and two data polls of which the first returns data. -/
theorem witness_ReadsRepeatExceptDataPoll :
    (∀ i ∈ [Instr.crcRead 0x00, .romRead 0xFF, .srSer 0x01, .pollStatus], ∃ t u,
      exec i (flagged true true true true) = .next t ∧ exec i t = .next u) ∧
    (∃ t u, exec .pollData (flagged true true true true) = .next t ∧ exec .pollData t = .next u ∧ t.out ≠ .none) := by
  refine ⟨?_, _, _, rfl, rfl, by decide⟩
  intro i hi
  simp only [List.mem_cons, List.not_mem_nil, or_false] at hi
  rcases hi with rfl | rfl | rfl | rfl <;> exact ⟨_, _, rfl, rfl⟩

/-- OnlyInitAndByteWriteAccumulator: an operation of another unit. -/
theorem witness_OnlyInitAndByteWriteAccumulator :
    (∃ t, exec (.romRead 0x00) fresh = .next t) ∧ isCrcInit (.romRead 0x00) = false ∧ fedByte (.romRead 0x00) = none :=
  ⟨⟨_, rfl⟩, rfl, rfl⟩

/-- IdentityAndParametersNeverChange. -/
theorem witness_IdentityAndParametersNeverChange : ∃ t, exec (.ctlReset 0x0000) fresh = .next t := ⟨_, rfl⟩

/-- OnlyNamedOperationsWriteStatus: one operation of each clause that changes the register. -/
theorem witness_OnlyNamedOperationsWriteStatus :
    (∃ t, exec (.srReset 0x00) { fresh with sr := odd } = .next t ∧ t.sr ≠ odd) ∧
    (∃ t, exec (.srSpue 0 true) fresh = .next t ∧ t.sr ≠ fresh.sr) ∧
    (∃ t, exec (.modePulseEn 0x0002) fresh = .next t ∧ t.sr ≠ fresh.sr) ∧
    (∃ t, exec (.modeRect 0x0001) extended = .next t ∧ t.sr ≠ extended.sr) :=
  ⟨⟨_, rfl, by decide⟩, ⟨_, rfl, by decide⟩, ⟨_, rfl, by decide⟩, ⟨_, rfl, by decide⟩⟩

/-- OnlyResetsSetReadyAndNothingClearsIt, each clause. -/
theorem witness_OnlyResetsSetReadyAndNothingClearsIt :
    ((flagged false false true false).ready = true ∧ ∃ t, exec .pollData (flagged false false true false) = .next t) ∧
    (fresh.ready = false ∧ ∃ t, exec (.ctlReset 0x0000) fresh = .next t ∧ t.ready = true) :=
  ⟨⟨rfl, _, rfl⟩, rfl, _, rfl, rfl⟩

/-- PendingIsSetBySearchAndClearedByData, each clause. -/
theorem witness_PendingIsSetBySearchAndClearedByData :
    (∃ t, exec (.commSearchAccess 0x00F4 0x0000) (flagged false false true false) = .next t ∧ t.searchPending = true) ∧
    (∃ t, exec .pollData (flagged false false true true) = .next t ∧ t.searchPending = false) :=
  ⟨⟨_, rfl, rfl⟩, _, rfl, rfl⟩

/-- ProtocolFollowsTable: the three states of the table and the fourth combination, and an operation of each clause. -/
theorem witness_ProtocolFollowsTable :
    protocolOf fresh = .unready ∧ protocolOf (flagged false false true false) = .ready ∧
    protocolOf (flagged false false true true) = .searchPending ∧
    protocolOf (flagged false false false true) = .unreachable ∧
    (∀ i ∈ [Instr.srReset 0x00, .ctlReset 0x0000, .commSearchAccess 0x00F4 0x0000, .pollData, .pollStatus, .crcInit 0x00],
      ∃ t, exec i (flagged false false true true) = .next t) := by
  refine ⟨rfl, rfl, rfl, rfl, ?_⟩
  intro i hi
  simp only [List.mem_cons, List.not_mem_nil, or_false] at hi
  rcases hi with rfl | rfl | rfl | rfl | rfl | rfl <;> exact ⟨_, rfl⟩

/-- InvariantIsKeptByEveryStep: a state that meets the invariant, with a word to come. -/
theorem witness_InvariantIsKeptByEveryStep :
    BlockInv { flagged true true true true with ops := [.poll 1] } ∧
    ∃ t, step { flagged true true true true with ops := [.poll 1] } = .next t :=
  ⟨⟨by decide, by decide⟩, _, rfl⟩

/-- UnretainedReportIsOneOfFour: a state in which the poll returns a report. -/
theorem witness_UnretainedReportIsOneOfFour :
    BlockInv (flagged true true true true) ∧ (flagged true true true true).params.retainModeSlots = false ∧
    ∃ t, exec .pollStatus (flagged true true true true) = .next t ∧ t.out ≠ .none :=
  ⟨⟨by decide, by decide⟩, rfl, _, rfl, by decide⟩

/-- AccumulatorIsInvisibleOutsideCrc. -/
theorem witness_AccumulatorIsInvisibleOutsideCrc : isCrcInit (.romRead 0x00) = false ∧ fedByte (.romRead 0x00) = none ∧
    (∀ x, Instr.romRead 0x00 ≠ .crcRead x) ∧ ∃ t, exec (.romRead 0x00) fresh = .next t :=
  ⟨rfl, rfl, fun _ => by simp, _, rfl⟩

/-- IdentityLeavesOnlyByRomRead: the words of program 2 of 95_test_vectors.md. -/
theorem witness_IdentityLeavesOnlyByRomRead : fresh.params.payloadMode = .placeholder ∧
    ∀ w ∈ ([.control 0x0000000000, .control 0x0200000002, .control 0x0100F40000, .poll 0, .poll 1, .poll 1] : List PortWord),
      isRomRead (decode fresh.params.ctlResetCode w) = false := by decide

/-- RunReturnsOneResultForEachWord. -/
theorem witness_RunReturnsOneResultForEachWord : fresh.ops = [] := rfl

/-- OnlyCommunicationDrivesTheTag: a word of each port. -/
theorem witness_OnlyCommunicationDrivesTheTag :
    (∃ t, exec (decode 0x0000 (.control 0x0106010000)) fresh = .next t) ∧
    (∃ t, exec (decode 0x0000 (.unit 0x000)) fresh = .next t) ∧ (∃ t, exec (decode 0x0000 (.poll 0)) fresh = .next t) :=
  ⟨⟨_, rfl⟩, ⟨_, rfl⟩, _, rfl⟩

end Sys2Proof.Tests
end

section
/-! The obligations of spec/00_scope.md: the parameter values and the identity at reset. -/

namespace Sys2Proof.Machine

/-- Power-on takes its parameters over as they are (10_state.md R32). -/
@[simp] theorem State.powerOn_params (p : Params) (family : Byte) (serial : Serial) :
    (State.powerOn p family serial).params = p := rfl

/-- The parameters at reset are those of 00_scope.md section 3. -/
@[simp] theorem State.reset_params : State.reset.params = standardParams :=
  State.powerOn_params standardParams Config.family Config.serial

/-- Settles O11: the parameters at reset are `standardParams`, whose four fields are the values of 00_scope.md R8 to R11. -/
theorem resetIsPowerOnWithSpecParameters : Obligations.ResetIsPowerOnWithSpecParameters := by
  unfold Obligations.ResetIsPowerOnWithSpecParameters
  rw [State.reset_params]
  exact ⟨rfl, rfl, rfl, rfl, rfl⟩

end Sys2Proof.Machine
end

section
/-! The obligations of spec/10_state.md: which operation writes which item of the state, the invariant of the block, and
what depends on the accumulator. -/

namespace Sys2Proof.Machine

/-! ### What an operation and a step can write -/

/-- The writes an operation can make: `Writes s i u` when `u` is what a write that `i` is allowed makes of `s`, the answer
left out (10_state.md R34). That every operation keeps to it is `exec_writes`. -/
inductive Writes (s : State) : Instr → State → Prop
  | accumulator {i : Instr} (v : Byte) (hi : isCrcInit i = true ∨ ∃ b, fedByte i = some b) : Writes s i (s.setCrcAcc v)
  | reset {i : Instr} (hi : (∃ a, i = .srReset a) ∨ (∃ x, i = .ctlReset x)) : Writes s i s.resetBridge
  | spue {i : Instr} (e : Bool) (hi : (∃ g, i = .srSpue g e) ∨ (∃ x, i = .modePulseEn x)) : Writes s i (s.setSpue e)
  | spce {i : Instr} (e : Bool) (hi : (∃ g, i = .srSpce g e) ∨ (∃ x, i = .modeSpeedChangeEn x)) :
      Writes s i (s.setSpce e)
  | slot {i : Instr} (v : StatusReg)
      (hi : ∃ x, i = .modeSpeed x ∨ i = .modeSpud x ∨ i = .modePdsrc x ∨ i = .modeLowt x ∨ i = .modeRect x) :
      Writes s i (s.retain v)
  | search (value index : Half) : Writes s (.commSearchAccess value index) (s.setSearchPending (searchFlag s))
  | data (hd : pollHasData s = true) : Writes s .pollData (s.setSearchPending false)
  | nothing {i : Instr} : Writes s i s

/-- A data poll while a search is pending and the block is ready (43_command_shell.md R139). -/
theorem exec_pollData_of_hasData {s : State} (hd : pollHasData s = true) :
    exec .pollData s = .next ((s.setSearchPending false).answer (.bytes .data (payload s))) := by
  simp [exec, execPollData, hd]

/-- A data poll otherwise (43_command_shell.md R139). -/
theorem exec_pollData_of_noData {s : State} (hd : pollHasData s = false) :
    exec .pollData s = .next (s.answer .none) := by
  simp [exec, execPollData, hd]

/-- An operation makes its writes and then gives its answer; it never stops. -/
theorem exec_writes (i : Instr) (s : State) :
    ∃ u r tag, Writes s i u ∧ exec i s = .next { u with out := r, cmdTag := tag } := by
  cases i
  case crcInit | crcByte => exact ⟨_, _, _, .accumulator _ (by simp [isCrcInit, fedByte]), rfl⟩
  case srReset | ctlReset => exact ⟨_, _, _, .reset (by simp), rfl⟩
  case srSpue | modePulseEn => exact ⟨_, _, _, .spue _ (by simp), rfl⟩
  case srSpce | modeSpeedChangeEn => exact ⟨_, _, _, .spce _ (by simp), rfl⟩
  case modeSpeed | modeSpud | modePdsrc | modeLowt | modeRect => exact ⟨_, _, _, .slot _ (by simp), rfl⟩
  case commSearchAccess => exact ⟨_, _, _, .search _ _, rfl⟩
  case pollData =>
    cases hd : pollHasData s
    · exact ⟨_, _, _, .nothing, exec_pollData_of_noData hd⟩
    · exact ⟨_, _, _, .data hd, exec_pollData_of_hasData hd⟩
  all_goals exact ⟨_, _, _, .nothing, rfl⟩

/-- What a state after an operation can be. -/
theorem exec_cases {i : Instr} {s t : State} (h : exec i s = .next t) :
    ∃ u r tag, Writes s i u ∧ t = { u with out := r, cmdTag := tag } := by
  obtain ⟨u, r, tag, hw, he⟩ := exec_writes i s
  exact ⟨u, r, tag, hw, Host.Outcome.next.inj (h.symm.trans he)⟩

/-- What a state after a step can be: the same where no word is presented, else the one after the word's operation. -/
theorem step_cases {s t : State} (h : step s = .next t) :
    (s.ops = [] ∧ t = s) ∨
    ∃ w rest, s.ops = w :: rest ∧ exec (decode s.params.ctlResetCode w) { s with ops := rest } = .next t := by
  unfold step at h
  obtain ⟨hops, hf⟩ | ⟨w, rest, hops, hf⟩ := fetch_cases s
  · rw [hf] at h
    exact .inl ⟨hops, (Host.Outcome.next.inj h).symm⟩
  · rw [hf] at h
    exact .inr ⟨w, rest, hops, h⟩

/-! ### The invariant of the block -/

/-- The writes of an operation keep the invariant: a search is set only while ready, and an unretained slot stores nothing. -/
theorem Writes.keeps_blockInv {i : Instr} {s u : State} (hw : Writes s i u) (hs : BlockInv s) : BlockInv u := by
  obtain ⟨hpend, hslots⟩ := hs
  cases hw with
  | accumulator | spue | spce | nothing => exact ⟨hpend, hslots⟩
  | reset => exact ⟨fun _ => rfl, fun _ => ⟨rfl, rfl, rfl, rfl, rfl⟩⟩
  | slot v =>
    refine ⟨by simpa using hpend, fun hr => ?_⟩
    have hp : s.params.retainModeSlots = false := by simpa using hr
    simpa [State.retain_sr, hp] using hslots hp
  | search =>
    refine ⟨fun hf => ?_, hslots⟩
    obtain hready | hp := Bool.or_eq_true_iff.mp hf
    · exact hready
    · exact hpend hp
  | data => exact ⟨fun hf => absurd hf Bool.false_ne_true, hslots⟩

/-- Every operation keeps the invariant; its answer is no part of it. -/
theorem exec_keeps_blockInv {i : Instr} {s t : State} (h : exec i s = .next t) (hs : BlockInv s) : BlockInv t := by
  obtain ⟨u, r, tag, hw, rfl⟩ := exec_cases h
  exact hw.keeps_blockInv hs

/-- The invariant holds after power-on: nothing is pending, and `SR` holds the baseline. -/
theorem blockInv_powerOn (p : Params) (f : Byte) (ser : Serial) : BlockInv (State.powerOn p f ser) :=
  ⟨fun h => absurd h Bool.false_ne_true, fun _ => ⟨rfl, rfl, rfl, rfl, rfl⟩⟩

/-- Settles O54: an idle step changes nothing, and taking a word off leaves the invariant to the word's operation. -/
theorem invariantIsKeptByEveryStep : Obligations.InvariantIsKeptByEveryStep := by
  intro s t hs h
  obtain ⟨-, rfl⟩ | ⟨w, rest, -, he⟩ := step_cases h
  · exact hs
  · exact exec_keeps_blockInv he hs

/-- Settles O53: reset is a power-on. -/
theorem invariantHoldsAtPowerOn : Obligations.InvariantHoldsAtPowerOn :=
  ⟨blockInv_powerOn _ _ _, blockInv_powerOn⟩

/-! ### Who writes an item -/

/-- Settles O47: of the writes, only the accumulator's own touches `CRCACC`, and its operation is one of the two. -/
theorem onlyInitAndByteWriteAccumulator : Obligations.OnlyInitAndByteWriteAccumulator := by
  intro i s t h hInit hByte
  obtain ⟨u, r, tag, hw, rfl⟩ := exec_cases h
  cases hw with
  | accumulator v hi => simp [hInit, hByte] at hi
  | slot v => exact s.retain_crcAcc v
  | reset | spue | spce | search | data | nothing => rfl

/-- Settles O48: no write touches the identity, the parameters or the words still to come. -/
theorem identityAndParametersNeverChange : Obligations.IdentityAndParametersNeverChange := by
  intro i s t h
  obtain ⟨u, r, tag, hw, rfl⟩ := exec_cases h
  cases hw with
  | slot v => exact ⟨s.retain_family v, s.retain_serial v, s.retain_params v, s.retain_ops v⟩
  | accumulator | reset | spue | spce | search | data | nothing => exact ⟨rfl, rfl, rfl, rfl⟩

/-- What an operation can do to `READY`: a reset sets it, every other operation keeps it (10_state.md R27). -/
theorem exec_ready_cases {i : Instr} {s t : State} (h : exec i s = .next t) :
    (((∃ a, i = .srReset a) ∨ (∃ x, i = .ctlReset x)) ∧ t.ready = true) ∨ t.ready = s.ready := by
  obtain ⟨u, r, tag, hw, rfl⟩ := exec_cases h
  cases hw with
  | reset hi => exact .inl ⟨hi, rfl⟩
  | slot v => exact .inr (s.retain_ready v)
  | accumulator | spue | spce | search | data | nothing => exact .inr rfl

/-- Both resets set `READY` (42_status_register.md R96, 43_command_shell.md R108). -/
theorem exec_reset_ready {i : Instr} {s t : State} (hi : (∃ a, i = .srReset a) ∨ (∃ x, i = .ctlReset x))
    (h : exec i s = .next t) : t.ready = true := by
  obtain ⟨a, rfl⟩ | ⟨x, rfl⟩ := hi <;> (cases h; rfl)

/-- Settles O50: a reset sets `READY`, and every other operation keeps it. -/
theorem onlyResetsSetReadyAndNothingClearsIt : Obligations.OnlyResetsSetReadyAndNothingClearsIt := by
  intro i s t h
  refine ⟨fun hs => ?_, fun hi => exec_reset_ready hi h, fun hs ht => ?_⟩
  · obtain ⟨-, ht⟩ | hkeep := exec_ready_cases h
    · exact ht
    · exact hkeep.trans hs
  · obtain ⟨hi, -⟩ | hkeep := exec_ready_cases h
    · exact hi
    · exact absurd (hs.symm.trans (hkeep.symm.trans ht)) Bool.false_ne_true

/-- What an operation can do to `SEARCHPENDING`: the search command sets it if the block is ready, a data poll that returns
data clears it, every other operation keeps it (10_state.md R28). -/
theorem exec_searchPending_cases {i : Instr} {s t : State} (h : exec i s = .next t) :
    ((∃ v x, i = .commSearchAccess v x) ∧ t.searchPending = searchFlag s) ∨
    (i = .pollData ∧ (∃ d, t.out = .bytes .data d) ∧ t.searchPending = false) ∨ t.searchPending = s.searchPending := by
  obtain ⟨u, r, tag, hw, ht⟩ := exec_cases h
  cases hw with
  | search v x => exact .inl ⟨⟨v, x, rfl⟩, ht ▸ rfl⟩
  | data hd =>
    rw [exec_pollData_of_hasData hd] at h
    cases h
    exact .inr (.inl ⟨rfl, ⟨_, rfl⟩, rfl⟩)
  | slot v => exact .inr (.inr (ht ▸ s.retain_searchPending v))
  | accumulator | reset | spue | spce | nothing => exact .inr (.inr (ht ▸ rfl))

/-- Settles O51: a search command can only set the flag, and only while ready; only a data poll with data clears it. -/
theorem pendingIsSetBySearchAndClearedByData : Obligations.PendingIsSetBySearchAndClearedByData := by
  intro i s t h
  obtain ⟨hi, hset⟩ | ⟨hi, hout, hclear⟩ | hkeep := exec_searchPending_cases h
  · refine ⟨fun hs ht => ⟨by simpa [searchFlag, hs] using hset.symm.trans ht, hi⟩, fun hs ht => ?_⟩
    simp [hset, searchFlag, hs] at ht
  · exact ⟨fun _ ht => absurd (hclear.symm.trans ht) Bool.false_ne_true, fun _ _ => ⟨hi, hout⟩⟩
  · exact ⟨fun hs ht => by simp [hkeep, hs] at ht, fun hs ht => by simp [hkeep, hs] at ht⟩

/-! ### What depends on the accumulator -/

/-- A mode slot's write neither reads nor writes the accumulator. -/
theorem State.retain_setCrcAcc (s : State) (a : Byte) (v : StatusReg) :
    (s.setCrcAcc a).retain v = (s.retain v).setCrcAcc a := by
  unfold State.retain
  exact (apply_ite (State.setCrcAcc · a) (s.params.retainModeSlots = true) (s.setSr v) s).symm

/-- Another value of the accumulator goes through an operation of a mode slot as it is. -/
theorem retain_answer_setCrcAcc {s t : State} {v : StatusReg} {r : Result} (a : Byte) (h : (s.retain v).answer r = t) :
    ((s.setCrcAcc a).retain v).answer r = t.setCrcAcc a := by
  subst h
  rw [State.retain_setCrcAcc]
  rfl

/-- Settles O56: outside the three operations of unit CRC, no meaning names the accumulator; a mode slot and a data poll
also choose what to write, and do not look at the accumulator for it. -/
theorem accumulatorIsInvisibleOutsideCrc : Obligations.AccumulatorIsInvisibleOutsideCrc := by
  intro i s t a hInit hByte hRead h
  cases i
  case crcInit => simp [isCrcInit] at hInit
  case crcByte => simp [fedByte] at hByte
  case crcRead x => exact absurd rfl (hRead x)
  case modeSpeed | modeSpud | modePdsrc | modeLowt | modeRect =>
    exact congrArg Host.Outcome.next (retain_answer_setCrcAcc a (Host.Outcome.next.inj h))
  case pollData =>
    have hsame : pollHasData { s with crcAcc := a } = pollHasData s := rfl
    cases hd : pollHasData s
    · rw [exec_pollData_of_noData hd] at h
      cases h
      exact exec_pollData_of_noData (hsame.trans hd)
    · rw [exec_pollData_of_hasData hd] at h
      cases h
      exact exec_pollData_of_hasData (hsame.trans hd)
  all_goals
    cases h
    rfl

end Sys2Proof.Machine
end

section
/-! The obligations of spec/20_memory.md: the table and its recurrence, the word a step performs, and the reads. -/

namespace Sys2Proof.Machine

/-! ### The reads -/

/-- An idempotent read writes its result and nothing else, and the result does not depend on the answer that stands before
it (20_memory.md R48). -/
theorem exec_idempotentRead {i : Instr} (hi : (∃ a, i = .crcRead a ∨ i = .romRead a ∨ i = .srSer a) ∨ i = .pollStatus) :
    ∃ f : State → Result, (∀ s, exec i s = .next (s.answer (f s))) ∧ ∀ s r, f (s.answer r) = f s := by
  obtain ⟨a, rfl | rfl | rfl⟩ | rfl := hi
  · exact ⟨fun s => .bytes .unit [s.crcAcc], fun _ => rfl, fun _ _ => rfl⟩
  · exact ⟨fun s => .bytes .unit (romOf s.params.crcTable s.family s.serial), fun _ => rfl, fun _ _ => rfl⟩
  · exact ⟨fun s => .bytes .unit (serialize s.sr), fun _ => rfl, fun _ _ => rfl⟩
  · exact ⟨fun s => if pollHasData s then .bytes .status (serialize s.sr ++ trailer) else .none,
      fun _ => rfl, fun _ _ => rfl⟩

/-- What a data poll can do: without data it answers nothing and writes no flag, with data it consumes the pending search
(43_command_shell.md R139). -/
theorem exec_pollData_cases {s t : State} (h : exec .pollData s = .next t) :
    (pollHasData s = false ∧ t = s.answer .none) ∨
    (pollHasData s = true ∧ t = (s.setSearchPending false).answer (.bytes .data (payload s))) := by
  cases hd : pollHasData s
  · exact .inl ⟨rfl, Host.Outcome.next.inj (h.symm.trans (exec_pollData_of_noData hd))⟩
  · exact .inr ⟨rfl, Host.Outcome.next.inj (h.symm.trans (exec_pollData_of_hasData hd))⟩

/-- After a data poll the polls have no data: there was none, or it is consumed. -/
theorem pollHasData_after_pollData {s t : State} (h : exec .pollData s = .next t) : pollHasData t = false := by
  obtain ⟨hd, rfl⟩ | ⟨-, rfl⟩ := exec_pollData_cases h
  · exact hd
  · exact Bool.and_false s.ready

/-- Settles O45: the four reads write their answer alone and do not look at the one before; a data poll consumes the search
that the next one would need. -/
theorem readsRepeatExceptDataPoll : Obligations.ReadsRepeatExceptDataPoll := by
  refine ⟨fun i s t u hi ht hu => ?_, fun s t u ht hu => ⟨?_, fun hout => ?_⟩⟩
  · obtain ⟨f, hexec, hsame⟩ := exec_idempotentRead hi
    rw [hexec] at ht hu
    cases ht
    cases hu
    exact ⟨hsame s (f s), rfl, rfl, rfl, rfl, rfl, rfl⟩
  · rw [exec_pollData_of_noData (pollHasData_after_pollData ht)] at hu
    cases hu
    rfl
  · obtain ⟨-, rfl⟩ | ⟨hd, rfl⟩ := exec_pollData_cases ht
    · exact absurd rfl hout
    · exact ⟨(Bool.and_eq_true_iff.mp hd).2, rfl⟩

/-! ### The word a step performs -/

/-- A step with a word to come decodes it and executes it on the rest (20_memory.md R50). -/
theorem step_of_ops_cons {s : State} {w : PortWord} {rest : List PortWord} (h : s.ops = w :: rest) :
    step s = exec (decode s.params.ctlResetCode w) { s with ops := rest } := by
  simp [step, fetch, h]

/-- A step with no word to come leaves the state as it is (60_exceptions.md R154). -/
theorem step_of_ops_nil {s : State} (h : s.ops = []) : step s = .next s := by
  simp [step, fetch, idle, h]

/-- Settles O8: the two cases of the words still to come. -/
theorem stepPerformsPresentedOperation : Obligations.StepPerformsPresentedOperation :=
  ⟨fun _ _ _ => step_of_ops_cons, fun _ => step_of_ops_nil⟩

/-- The word that is presented is the one the next step performs, on the state before it was presented. -/
theorem step_present (s : State) (w : PortWord) : step (s.present w) = exec (decode s.params.ctlResetCode w) s :=
  step_of_ops_cons (s.present_ops w)

/-- Bits that are the word of a format are placed by presenting that word (log entry 14). -/
theorem State.withFetchWord_of_ok {nbits w : Nat} {pw : PortWord} (s : State) (h : portWordOf nbits w = .ok pw) :
    s.withFetchWord nbits w = s.present pw := by
  simp [State.withFetchWord, h]

/-- Bits from which the decoder reads an operation are a word of a format. -/
theorem portWordOf_of_decodeTableWord {nbits w : Nat} {i : Instr} (h : decodeTableWord nbits w = some i) :
    ∃ pw, portWordOf nbits w = .ok pw ∧ decode standardParams.ctlResetCode pw = i := by
  unfold decodeTableWord at h
  split at h
  · next pw hpw => exact ⟨pw, hpw, Option.some.inj h⟩
  · cases h

/-- Settles O9: placing the bits presents their word, and the reset code of the state is the one they were decoded with. -/
theorem placedWordRunsNext : Obligations.PlacedWordRunsNext := by
  intro s nbits w i hcode hdec
  obtain ⟨pw, hpw, rfl⟩ := portWordOf_of_decodeTableWord hdec
  rw [s.withFetchWord_of_ok hpw, step_present, hcode]
  rfl

/-! ### The table -/

/-- Settles O12: an index of 8 bits is within the 256 entries. -/
theorem tableReadReturnsTheEntry : Obligations.TableReadReturnsTheEntry :=
  fun _ i => Vector.getElem?_eq_getElem i.isLt

/-- One bit of the recurrence of 20_memory.md R38: shift right, and exclusive-or with 0x8C where a one falls out. -/
def crcShift (c : Byte) : Byte := if c.getLsbD 0 then (c >>> 1) ^^^ 0x8C else c >>> 1

/-- The `len` entries from index `start` on as the recurrence of 20_memory.md R38 gives them. -/
def recurrenceRows (start len : Nat) : List Byte := (List.range' start len).map fun n => crcShift^[8] (BitVec.ofNat 8 n)

theorem recurrenceRows_append (start m n : Nat) :
    recurrenceRows start m ++ recurrenceRows (start + m) n = recurrenceRows start (m + n) := by
  unfold recurrenceRows
  rw [← List.map_append, List.range'_append_1]

theorem dowRows0_eq : dowRows0 = recurrenceRows 0 64 := by decide
theorem dowRows4_eq : dowRows4 = recurrenceRows (0 + 64) 64 := by decide
theorem dowRows8_eq : dowRows8 = recurrenceRows (0 + (64 + 64)) 64 := by decide
theorem dowRowsC_eq : dowRowsC = recurrenceRows (0 + (64 + 64 + 64)) 64 := by decide

/-- The printed table is what the recurrence gives for each index in order (20_memory.md R37, R38). -/
theorem dowTable_toList : dowTable.toList = recurrenceRows 0 256 := by
  change dowRows0 ++ dowRows4 ++ dowRows8 ++ dowRowsC = _
  rw [dowRows0_eq, dowRows4_eq, dowRows8_eq, dowRowsC_eq, recurrenceRows_append, recurrenceRows_append,
    recurrenceRows_append]

/-- An entry of the Dow table is eight bits of the recurrence from its index (20_memory.md R38). -/
theorem tableRead_dowTable (i : Byte) : tableRead dowTable i = crcShift^[8] i := by
  have h := tableReadReturnsTheEntry dowTable i
  rw [← Vector.getElem?_toList, dowTable_toList] at h
  simpa [recurrenceRows, i.isLt] using h.symm

/-- Settles O21: the statement writes `crcShift` out. -/
theorem tableFollowsRecurrence : Obligations.TableFollowsRecurrence := tableRead_dowTable

end Sys2Proof.Machine
end

section
/-! The obligations of spec/30_encoding.md: the decoder and the encoder, the opcode table, the command tag and the
pseudo-operations. -/

namespace Sys2Proof.Machine

/-! ### The operation a word selects -/

/-- A class byte that is none of the first three is reserved (30_encoding.md R61). -/
theorem reservedClass_iff (cls : Byte) : 3 ≤ cls.toNat ↔ cls ≠ 0#8 ∧ cls ≠ 1#8 ∧ cls ≠ 2#8 := by
  bv_omega

/-- A mode request's value that is none of the eight slots is of no slot (30_encoding.md R64). -/
theorem noModeSlot_iff (value : Half) : 8 ≤ value.toNat ↔
    value ≠ 0#16 ∧ value ≠ 1#16 ∧ value ≠ 2#16 ∧ value ≠ 3#16 ∧ value ≠ 4#16 ∧ value ≠ 5#16 ∧ value ≠ 6#16 ∧
      value ≠ 7#16 := by
  bv_omega

/-- A word of format V is read by its fields (30_encoding.md R60). -/
@[simp] theorem decode_packRequest (code : Half) (cls : Byte) (value index : Half) :
    decode code (.control (packRequest cls value index)) = decodeRequest code cls value index := by
  simp [decode]

@[simp] theorem decodeRequest_comm (code value index : Half) :
    decodeRequest code 1#8 value index = decodeComm value index := rfl

@[simp] theorem decodeRequest_mode (code value index : Half) :
    decodeRequest code 2#8 value index = decodeMode value index := rfl

/-- Settles O1: a word's fields are those it was built from, and the row's condition is what the decoder tests. -/
theorem decodeOfEncodeIsIdentity : Obligations.DecodeOfEncodeIsIdentity := by
  intro code i hi
  cases i
  case crcInit | crcByte | crcRead | uRsvdCrc | romRead | srReset | srSpue | srSpce | srSer | uRsvdUnit =>
    simp [encode, decode, decodeUnit]
  case uRsvdRom op arg =>
    have hop : op ≠ 0#2 := bne_iff_ne.mp hi
    simp [encode, decode, decodeUnit, hop]
  case ctlReset => simp [encode, decodeRequest]
  case ctlOther value index =>
    have hv : value ≠ code := bne_iff_ne.mp hi
    simp [encode, decodeRequest, hv]
  case modePulseEn | modeSpeedChangeEn | modeSpeed | modeSpud | modePdsrc | modePpd | modeLowt | modeRect =>
    simp [encode, decodeMode]
  case modeOther value index =>
    have hv := (noModeSlot_iff value).mp (of_decide_eq_true hi)
    simp [encode, decodeMode, hv]
  case reqRsvd cls value index =>
    have hc := (reservedClass_iff cls).mp (of_decide_eq_true hi)
    simp [encode, decodeRequest, hc]
  case pollStatus | pollData => rfl
  all_goals
    have ht := eq_of_beq hi
    simp [encode, decodeComm, ht]

/-- `w` is the word of `i`, and `i` meets the condition of its row (30_encoding.md R72). -/
def IsWordOf (code : Half) (w : PortWord) (i : Instr) : Prop := encode code i = w ∧ i.wellFormed code = true

/-- A two-bit field that is none of the first three codes is the last. -/
theorem eq_three_of_ne {x : BitVec 2} (h0 : x ≠ 0b00) (h1 : x ≠ 0b01) (h2 : x ≠ 0b10) : x = 0b11 := by
  bv_omega

/-- A word of format U is built from the codes its fields have. -/
theorem unit_packUnit_of_fields {w : BitVec 12} {u op : BitVec 2} (hu : unitField w = u) (ho : opField w = op) :
    PortWord.unit (packUnit u op (argField w)) = .unit w := by
  rw [← hu, ← ho, packUnit_fields]

/-- The same where `arg` is given by the flag and the bits that are ignored (30_encoding.md R59). -/
theorem unit_packUnit_packFlag_of_fields {w : BitVec 12} {u op : BitVec 2} (hu : unitField w = u)
    (ho : opField w = op) :
    PortWord.unit (packUnit u op (packFlag (flagRest (argField w)) (flagBit (argField w)))) = .unit w := by
  rw [packFlag_fields, unit_packUnit_of_fields hu ho]

theorem decodeUnit_isWordOf (code : Half) (w : BitVec 12) : IsWordOf code (.unit w) (decodeUnit w) := by
  unfold decodeUnit
  split_ifs with hu ho ho ho hu ho hu ho ho ho
  · exact ⟨unit_packUnit_of_fields hu ho, rfl⟩
  · exact ⟨unit_packUnit_of_fields hu ho, rfl⟩
  · exact ⟨unit_packUnit_of_fields hu ho, rfl⟩
  · exact ⟨unit_packUnit_of_fields hu (eq_three_of_ne ‹_› ‹_› ‹_›), rfl⟩
  · exact ⟨unit_packUnit_of_fields hu ho, rfl⟩
  · exact ⟨unit_packUnit_of_fields hu rfl, bne_iff_ne.mpr ho⟩
  · exact ⟨unit_packUnit_of_fields hu ho, rfl⟩
  · exact ⟨unit_packUnit_packFlag_of_fields hu ho, rfl⟩
  · exact ⟨unit_packUnit_packFlag_of_fields hu ho, rfl⟩
  · exact ⟨unit_packUnit_of_fields hu (eq_three_of_ne ‹_› ‹_› ‹_›), rfl⟩
  · exact ⟨unit_packUnit_of_fields (eq_three_of_ne ‹_› ‹_› ‹_›) rfl, rfl⟩

theorem decodeComm_isWordOf (code value index : Half) :
    IsWordOf code (.control (packRequest 1#8 value index)) (decodeComm value index) := by
  unfold decodeComm
  split <;> exact ⟨rfl, beq_iff_eq.mpr ‹_›⟩

theorem decodeMode_isWordOf (code value index : Half) :
    IsWordOf code (.control (packRequest 2#8 value index)) (decodeMode value index) := by
  unfold decodeMode
  split_ifs
  case neg => exact ⟨rfl, decide_eq_true ((noModeSlot_iff value).mpr (by tauto))⟩
  all_goals
    subst value
    exact ⟨rfl, rfl⟩

theorem decodeRequest_isWordOf (code : Half) (cls : Byte) (value index : Half) :
    IsWordOf code (.control (packRequest cls value index)) (decodeRequest code cls value index) := by
  unfold decodeRequest
  split_ifs with h0 hv h1 h2
  · exact ⟨by rw [h0, hv]; rfl, rfl⟩
  · exact ⟨by rw [h0]; rfl, bne_iff_ne.mpr hv⟩
  · exact h1 ▸ decodeComm_isWordOf code value index
  · exact h2 ▸ decodeMode_isWordOf code value index
  · exact ⟨rfl, decide_eq_true ((reservedClass_iff cls).mpr ⟨h0, h1, h2⟩)⟩

/-- What the decoder selects: the word of every port is the word of its operation, whose row's condition it meets. -/
theorem decode_isWordOf (code : Half) (w : PortWord) : IsWordOf code w (decode code w) := by
  cases w with
  | unit w => exact decodeUnit_isWordOf code w
  | control w => simpa [decode] using decodeRequest_isWordOf code (classField w) (valueField w) (indexField w)
  | poll w =>
    obtain rfl | rfl : w = 0 ∨ w = 1 := by bv_omega
    · exact ⟨rfl, rfl⟩
    · exact ⟨rfl, rfl⟩

/-- Settles O2: no branch of the decoder drops a bit of the word. -/
theorem encodeOfDecodeIsIdentity : Obligations.EncodeOfDecodeIsIdentity :=
  fun code w => (decode_isWordOf code w).1

/-- Settles O3: the tests on the way to a branch are the condition of its row. -/
theorem decodedOperationIsWellFormed : Obligations.DecodedOperationIsWellFormed :=
  fun code w => (decode_isWordOf code w).2

/-- Settles O5: nine closed words, each split into its fields and tested. -/
theorem writtenOutWordsDecode : Obligations.WrittenOutWordsDecode := by
  unfold Obligations.WrittenOutWordsDecode
  decide

/-- Settles O59: the sixteen operations that drive a tag are those of a communication request, and the condition of
their row says that the tag is the one of the value. -/
theorem onlyCommunicationDrivesTheTag : Obligations.OnlyCommunicationDrivesTheTag := by
  intro code w s t h
  have hw := decode_isWordOf code w
  generalize decode code w = i at h hw
  obtain ⟨rfl, hi⟩ := hw
  cases i
  case reqRsvd cls value index =>
    obtain ⟨-, hc, -⟩ := (reservedClass_iff cls).mp (of_decide_eq_true hi)
    cases h
    simp [encode, hc]
  case pollData =>
    obtain ⟨-, rfl⟩ | ⟨-, rfl⟩ := exec_pollData_cases h <;> rfl
  case commSearchAccess | commReadRedirect | commReadCrcProt | commWriteEprom | commWriteSram | commSetPath
      | commDoRelease | commReadStraight | commBlockIo | commMatchAccess | commByteIo | commOneWireReset | commPulse
      | commSetDuration | commErrorEscape | commNone =>
    have ht := eq_of_beq hi
    cases h
    simp [encode, ht]
  all_goals
    cases h
    simp [encode]

/-! ### The opcode table -/

/-- A word of format U matches a row when each of its fields does (30_encoding.md R55). -/
theorem packUnit_matches_iff (u op : BitVec 2) (arg : Byte) (mask pat : BitVec 12) :
    packUnit u op arg &&& mask = pat ↔
      u &&& unitField mask = unitField pat ∧ op &&& opField mask = opField pat ∧
        arg &&& argField mask = argField pat := by
  rw [← packUnit_fields mask, ← packUnit_fields pat, packUnit_and, packUnit_inj]
  simp

/-- A word of format V matches a row when each of its fields does (30_encoding.md R60). -/
theorem packRequest_matches_iff (cls : Byte) (value index : Half) (mask pat : BitVec 40) :
    packRequest cls value index &&& mask = pat ↔
      cls &&& classField mask = classField pat ∧ value &&& valueField mask = valueField pat ∧
        index &&& indexField mask = indexField pat := by
  rw [← packRequest_fields mask, ← packRequest_fields pat, packRequest_and, packRequest_inj]
  simp

/-- A mask of all eight bits of a class byte. -/
@[simp] theorem byte_and_full (b : Byte) : b &&& 255#8 = b := BitVec.and_allOnes

/-- A mask of all sixteen bits of a value. -/
@[simp] theorem half_and_full (h : Half) : h &&& 65535#16 = h := BitVec.and_allOnes

/-- A mask of both bits of a unit or an op. -/
@[simp] theorem pair_and_full (x : BitVec 2) : x &&& 3#2 = x := BitVec.and_allOnes

/-- The mnemonic of the communication request of a tag (30_encoding.md R63). -/
def tagMnemonic : CommTag → String
  | .searchAccess => "REQ.COMM.SEARCH_ACCESS"
  | .readRedirect => "REQ.COMM.READ_REDIRECT"
  | .readCrcProt => "REQ.COMM.READ_CRC_PROT"
  | .writeEprom => "REQ.COMM.WRITE_EPROM"
  | .writeSram => "REQ.COMM.WRITE_SRAM"
  | .setPath => "REQ.COMM.SET_PATH"
  | .doRelease => "REQ.COMM.DO_RELEASE"
  | .readStraight => "REQ.COMM.READ_STRAIGHT"
  | .blockIo => "REQ.COMM.BLOCK_IO"
  | .matchAccess => "REQ.COMM.MATCH_ACCESS"
  | .byteIo => "REQ.COMM.BYTE_IO"
  | .oneWireReset => "REQ.COMM.ONE_WIRE_RESET"
  | .pulse => "REQ.COMM.PULSE"
  | .setDuration => "REQ.COMM.SET_DURATION"
  | .errorEscape => "REQ.COMM.ERROR_ESCAPE"
  | .none => "REQ.COMM.NONE"

/-- The table's row of a tag and its mask (30_encoding.md R63). -/
def commRow (p : CommTag × Half) : OpcodeRow 40 :=
  ⟨packRequest 0x01 p.2 0x0000, packRequest 0xFF p.2 0x0000, tagMnemonic p.1⟩

/-- Among the rows of a list of masks and the row that takes every value, the first match is that of the first mask. -/
theorem firstRow_commRows (masks : List (CommTag × Half)) (rest : List (OpcodeRow 40)) (value index : Half) :
    firstRow ((masks ++ [(CommTag.none, 0x0000)]).map commRow ++ rest) (packRequest 0x01 value index) =
      some (tagMnemonic (firstTag masks value)) := by
  induction masks with
  | nil => simp [firstRow, commRow, packRequest_and, firstTag]
  | cons p masks ih =>
    by_cases hm : value &&& p.2 = p.2
    · simp [firstRow, commRow, packRequest_and, firstTag, maskMatches, hm]
    · have hne : ¬ packRequest 0x01 value index &&& (commRow p).mask = (commRow p).pat := by
        simp [commRow, packRequest_and, packRequest_inj, hm]
      have hskip : firstRow ((p :: masks ++ [(CommTag.none, 0x0000)]).map commRow ++ rest)
          (packRequest 0x01 value index) = some (tagMnemonic (firstTag masks value)) := (if_neg hne).trans ih
      simpa [firstTag, maskMatches, hm] using hskip

/-- The rows of format V: two of class 0, those of the masks in priority order and of no mask, and the rest. -/
theorem controlRows_eq : controlRows =
    ⟨0x0000000000, 0xFFFFFF0000, "REQ.CTL.RESET"⟩ :: ⟨0x0000000000, 0xFF00000000, "REQ.CTL.OTHER"⟩ ::
      ((commMasks ++ [(CommTag.none, 0x0000)]).map commRow ++ controlRows.drop 18) := by
  decide

/-- A communication request has the row of its tag (30_encoding.md R63, R72). -/
theorem firstRow_controlRows_comm (value index : Half) :
    firstRow controlRows (packRequest 0x01 value index) = some (tagMnemonic (commTag value)) := by
  rw [controlRows_eq, firstRow, if_neg (by simp [packRequest_matches_iff, classField]), firstRow,
    if_neg (by simp [packRequest_matches_iff, classField]), firstRow_commRows, commTag]

/-- The table gives the word of an operation the operation's mnemonic. -/
theorem tableMnemonic_encode {i : Instr} (hi : i.wellFormed 0x0000 = true) :
    tableMnemonic (encode 0x0000 i) = some i.mnemonic := by
  cases i
  case crcInit | crcByte | crcRead | uRsvdCrc | romRead | srReset | srSpue | srSpce | srSer | uRsvdUnit =>
    simp [tableMnemonic, encode, Instr.mnemonic, firstRow, unitRows, packUnit_matches_iff, unitField, opField, argField]
  case uRsvdRom op arg =>
    have hop : op ≠ 0#2 := bne_iff_ne.mp hi
    simp [tableMnemonic, encode, Instr.mnemonic, firstRow, unitRows, packUnit_matches_iff, unitField, opField, argField,
      hop]
  case ctlReset | modePulseEn | modeSpeedChangeEn | modeSpeed | modeSpud | modePdsrc | modePpd | modeLowt | modeRect =>
    simp [tableMnemonic, encode, Instr.mnemonic, firstRow, controlRows, packRequest_matches_iff, classField, valueField,
      indexField]
  case ctlOther value index =>
    have hv : value ≠ 0#16 := bne_iff_ne.mp hi
    simp [tableMnemonic, encode, Instr.mnemonic, firstRow, controlRows, packRequest_matches_iff, classField, valueField,
      indexField, hv]
  case modeOther value index =>
    have hv := (noModeSlot_iff value).mp (of_decide_eq_true hi)
    simp [tableMnemonic, encode, Instr.mnemonic, firstRow, controlRows, packRequest_matches_iff, classField, valueField,
      indexField, hv]
  case reqRsvd cls value index =>
    have hc := (reservedClass_iff cls).mp (of_decide_eq_true hi)
    simp [tableMnemonic, encode, Instr.mnemonic, firstRow, controlRows, packRequest_matches_iff, classField, valueField,
      indexField, hc]
  case pollStatus | pollData => rfl
  all_goals
    have ht := eq_of_beq hi
    exact (firstRow_controlRows_comm _ _).trans (by rw [ht]; rfl)

/-- Settles O4: a word is the word of the operation it selects, and that meets its row's condition. -/
theorem decoderFollowsOpcodeTable : Obligations.DecoderFollowsOpcodeTable := by
  intro w
  have h := tableMnemonic_encode (decodedOperationIsWellFormed 0x0000 w)
  rwa [encodeOfDecodeIsIdentity] at h

/-! ### The command tag -/

/-- The masks of the statements are those of the model (30_encoding.md R63). -/
theorem maskOrder_eq : Spec.maskOrder = commMasks.map Prod.snd := by decide

/-- The codes of the tags are their places in the priority order (30_encoding.md R71). -/
theorem commMasks_tagCode : commMasks.map (fun p => (tagCode p.1).toNat) = List.range 15 := by decide

/-- The code of the tag of a mask is the number of masks before it (30_encoding.md R71). -/
theorem tagCode_eq_length {l r : List (CommTag × Half)} {t : CommTag} {m : Half} (h : commMasks = l ++ (t, m) :: r) :
    (tagCode t).toNat = l.length := by
  have hplace : some (tagCode t).toNat = (List.range 15)[l.length]? := by simp [← commMasks_tagCode, h]
  obtain ⟨_, hlen⟩ := List.getElem?_eq_some_iff.mp hplace.symm
  simpa using hlen.symm

/-- The place a value is selected at is the code of its tag. -/
theorem selected_tagCode (value : Half) : Spec.Selected (tagCode (commTag value)).toNat value := by
  unfold Spec.Selected commTag
  rw [maskOrder_eq]
  obtain ⟨htag, hnone⟩ | ⟨l, t, m, r, hrows, htag, hm, hl⟩ := firstTag_cases commMasks value
  · rw [htag]
    refine ⟨by simp [tagCode, commMasks], fun m hmem => ?_⟩
    obtain ⟨p, hp, rfl⟩ := List.mem_map.mp (List.mem_of_mem_take hmem)
    exact hnone p hp
  · rw [htag, tagCode_eq_length hrows, hrows]
    refine ⟨by simpa using hm, fun m' hmem => ?_⟩
    obtain ⟨p, hp, rfl⟩ : ∃ p ∈ l, p.2 = m' := by simpa using hmem
    exact hl p hp

/-- A value is not selected at two places: at the later one it would not match the mask of the earlier one. -/
theorem selected_not_lt {j k : Nat} {value : Half} (hj : Spec.Selected j value) (hk : Spec.Selected k value)
    (hk16 : k < 16) : ¬ j < k := by
  intro hlt
  have hlen : j < Spec.maskOrder.length := (by omega : j < 15)
  have hmem : Spec.maskOrder[j] ∈ Spec.maskOrder.take k := List.mem_take_iff_getElem.mpr ⟨j, by omega, rfl⟩
  exact hk.2 _ hmem (hj.1 _ (List.getElem?_eq_getElem hlen))

/-- Settles O6: the code of the tag is a place the value is selected at, and there is no other. -/
theorem commTagIsFirstMatchingMask : Obligations.CommTagIsFirstMatchingMask := by
  intro value k hk
  have htag := selected_tagCode value
  have hlt := (tagCode (commTag value)).isLt
  constructor
  · intro hsel
    have hle := selected_not_lt hsel htag hlt
    have hge := selected_not_lt htag hsel hk
    bv_omega
  · intro hcode
    simpa [hcode, Nat.mod_eq_of_lt hk] using htag

/-! ### The pseudo-operations -/

/-- A run of a word and those after it, where the word's operation is `i` (70_reset_and_hazards.md R170). -/
theorem runStream_cons {s t : State} {w : PortWord} {i : Instr} (hw : decode s.params.ctlResetCode w = i)
    (h : exec i { s with ops := [] } = .next t) (ws : List PortWord) :
    runStream (w :: ws) s = (t.out :: (runStream ws t).1, (runStream ws t).2) := by
  have hstep : step { s with ops := [w] } = .next t := by rw [step_of_ops_cons rfl, ← h, ← hw]
  simp [runStream, hstep]

theorem decode_assemble_crcInit (code : Half) : decode code (assemble .crcInit) = .crcInit 0x00 :=
  decodeOfEncodeIsIdentity code (.crcInit 0x00) rfl

theorem decode_assemble_crcByte (code : Half) (b : Byte) : decode code (assemble (.crcByte b)) = .crcByte b :=
  decodeOfEncodeIsIdentity code (.crcByte b) rfl

theorem decode_assemble_crcRead (code : Half) : decode code (assemble .crcRead) = .crcRead 0x00 :=
  decodeOfEncodeIsIdentity code (.crcRead 0x00) rfl

/-- The words of some bytes and a `CRC.READ` return the iteration of the bytes from the accumulator (40_crc8.md R77). -/
theorem runStream_crcBytes_crcRead (d : List Byte) (s : State) :
    (runStream ((d.map Written.crcByte ++ [Written.crcRead]).map assemble) s).1.getLast? =
      some (.bytes .unit [d.foldl (crcStep s.params.crcTable) s.crcAcc]) := by
  induction d generalizing s with
  | nil =>
    rw [List.map_nil, List.nil_append, List.map_singleton, runStream_cons (decode_assemble_crcRead _) rfl]
    rfl
  | cons b d ih =>
    rw [List.map_cons, List.cons_append, List.map_cons, runStream_cons (decode_assemble_crcByte _ b) rfl,
      List.getLast?_cons, ih]
    rfl

/-- Settles O23: a `CRC.INIT` before the bytes clears the accumulator, and each other pseudo-operation is the word
of the operation it is named for. -/
theorem pseudoOperationsExpand : Obligations.PseudoOperationsExpand := by
  refine ⟨fun s d => ?_, fun code e => ⟨?_, ?_, ?_, ?_⟩⟩
  · rw [expand, List.append_assoc, List.singleton_append, List.map_cons,
      runStream_cons (decode_assemble_crcInit _) rfl, List.getLast?_cons, runStream_crcBytes_crcRead]
    rfl
  · exact congrArg (· :: []) (decodeOfEncodeIsIdentity code (.ctlReset 0x0000) rfl)
  · exact congrArg (· :: []) (decodeOfEncodeIsIdentity code (.commSearchAccess 0x00F4 0x0000) rfl)
  · exact congrArg (· :: []) (decodeOfEncodeIsIdentity code (.modePulseEn _) rfl)
  · exact congrArg (· :: []) (decodeOfEncodeIsIdentity code (.modeSpeedChangeEn _) rfl)

end Sys2Proof.Machine
end

section
/-! The obligations of spec/40_crc8.md: the checksum, the arithmetic laws of its table, the three operations of unit CRC
and the streams they make. -/

namespace Sys2Proof.Machine

/-! ### The checksum for any table -/

/-- An iteration on two equal bytes reads entry 0 (40_crc8.md R83, corner cases). -/
theorem crcStep_self (t : CrcTable) (b : Byte) : crcStep t b b = t[0] := by
  unfold crcStep
  rw [BitVec.xor_self]
  rfl

/-- The checksum of two sequences in a row goes on from that of the first (40_crc8.md R81 a). -/
theorem crc8_append (t : CrcTable) (a b : List Byte) : crc8 t (a ++ b) = b.foldl (crcStep t) (crc8 t a) :=
  List.foldl_append

/-- One more byte is one more iteration (40_crc8.md R77). -/
theorem crc8_concat (t : CrcTable) (d : List Byte) (b : Byte) : crc8 t (d ++ [b]) = crcStep t (crc8 t d) b :=
  crc8_append t d [b]

/-- Zero bytes keep the accumulator at its initial value where entry 0 is zero (40_crc8.md R81 d). -/
theorem crc8_replicate_zero {t : CrcTable} (ht : t[0] = 0x00) (n : Nat) : crc8 t (List.replicate n 0x00) = 0x00 := by
  induction n with
  | zero => rfl
  | succ n ih => rw [List.replicate_succ', crc8_concat, ih, crcStep_self, ht]

/-- Settles O16: a fold over no bytes, and over one more byte. -/
theorem checksumIsLeftToRight : Obligations.ChecksumIsLeftToRight :=
  fun t d b => ⟨rfl, crc8_concat t d b⟩

/-- Settles O17: the last iteration is on two equal bytes. -/
theorem checksumOfSelfCheckedIsZero : Obligations.ChecksumOfSelfCheckedIsZero := by
  intro t d ht
  rw [crc8_concat, crcStep_self, ht]

/-- Settles O18: the second law is the first, from an accumulator that the zero bytes have left at zero. -/
theorem checksumPrefixAndLeadingZeros : Obligations.ChecksumPrefixAndLeadingZeros := by
  refine fun t a b n => ⟨crc8_append t a b, fun ht => ?_⟩
  rw [crc8_append, crc8_replicate_zero ht]
  rfl

/-! ### The arithmetic laws of the Dow table -/

/-- One bit of the recurrence is linear: a shift is, and the exclusive-ors with 0x8C of two ones falling out cancel. -/
theorem crcShift_xor : Function.Semiconj₂ crcShift (· ^^^ ·) (· ^^^ ·) := by
  intro x y
  unfold crcShift
  rw [BitVec.getLsbD_xor, BitVec.ushiftRight_xor_distrib]
  cases x.getLsbD 0 <;> cases y.getLsbD 0
  case false.false => rfl
  case false.true => exact BitVec.xor_assoc _ _ _
  case true.false =>
    calc (x >>> 1 ^^^ y >>> 1) ^^^ 0x8C
      _ = (x >>> 1 ^^^ 0x8C) ^^^ y >>> 1 := by ac_rfl
  case true.true =>
    calc x >>> 1 ^^^ y >>> 1
      _ = (x >>> 1 ^^^ y >>> 1) ^^^ (0x8C ^^^ 0x8C) := BitVec.xor_zero.symm
      _ = (x >>> 1 ^^^ 0x8C) ^^^ (y >>> 1 ^^^ 0x8C) := by ac_rfl

/-- Only the zero byte is shifted to zero: a one falling out leaves 0x8C in place, whose top bit the shift cannot clear. -/
theorem eq_zero_of_crcShift_eq_zero {c : Byte} (h : crcShift c = 0x00) : c = 0x00 := by
  unfold crcShift at h
  split at h
  · have hc : c >>> 1 = 0x8C := BitVec.xor_eq_zero_iff.mp h
    bv_omega
  · next hbit =>
    have heven : c.toNat % 2 ≠ 1 := by simpa [BitVec.getLsbD] using hbit
    bv_omega

theorem crcShift_injective : Function.Injective crcShift := by
  intro x y h
  apply BitVec.xor_eq_zero_iff.mp
  apply eq_zero_of_crcShift_eq_zero
  exact (crcShift_xor.eq x y).trans (BitVec.xor_eq_zero_iff.mpr h)

/-- The Dow table is linear over exclusive-or, being eight bits of the recurrence (40_crc8.md R81 c). -/
theorem tableRead_dowTable_xor (x y : Byte) :
    tableRead dowTable (x ^^^ y) = tableRead dowTable x ^^^ tableRead dowTable y := by
  simp only [tableRead_dowTable]
  exact (crcShift_xor.iterate 8).eq x y

/-- No byte stands twice in the Dow table, so it is a permutation (40_crc8.md R81 b). -/
theorem tableRead_dowTable_injective : Function.Injective (tableRead dowTable) := by
  rw [funext tableRead_dowTable]
  exact crcShift_injective.iterate 8

/-- Settles O19: exclusive-or with a fixed byte is injective and so is the table, and an injection of the bytes, a finite
set, into themselves is a bijection. -/
theorem iterationIsBijective : Obligations.IterationIsBijective :=
  ⟨fun b => Finite.injective_iff_bijective.mp
      (tableRead_dowTable_injective.comp fun _ _ => (BitVec.xor_left_inj b).mp),
    fun acc => Finite.injective_iff_bijective.mp
      (tableRead_dowTable_injective.comp fun _ _ => (BitVec.xor_right_inj acc).mp)⟩

/-- An iteration with the Dow table is linear in the accumulator and the byte together. -/
theorem crcStep_dowTable_xor (p q x y : Byte) :
    crcStep dowTable (p ^^^ q) (x ^^^ y) = crcStep dowTable p x ^^^ crcStep dowTable q y := by
  unfold crcStep
  rw [← tableRead_dowTable_xor]
  ac_rfl

/-- The loop of 40_crc8.md R77 is linear from any two accumulators. -/
theorem foldl_crcStep_zipWith_xor {a b : List Byte} (h : a.length = b.length) (p q : Byte) :
    (List.zipWith (· ^^^ ·) a b).foldl (crcStep dowTable) (p ^^^ q) =
      a.foldl (crcStep dowTable) p ^^^ b.foldl (crcStep dowTable) q := by
  induction a generalizing b p q with
  | nil =>
    obtain rfl := List.eq_nil_of_length_eq_zero h.symm
    rfl
  | cons x a ih =>
    cases b with
    | nil => cases h
    | cons y b =>
      rw [List.zipWith_cons_cons, List.foldl_cons, crcStep_dowTable_xor, ih (Nat.succ.inj h)]
      rfl

/-- Settles O20: the table is linear, and both checksums start from zero. -/
theorem checksumIsLinear : Obligations.ChecksumIsLinear :=
  ⟨tableRead_dowTable_xor, fun _ _ h => foldl_crcStep_zipWith_xor h 0x00 0x00⟩

/-! ### The operations of unit CRC -/

/-- The three words of unit CRC, written with `unit` and `op` as one field of four bits (30_encoding.md R57). -/
theorem decode_crcInit (code : Half) (arg : Byte) : decode code (.unit (0x0#4 ++ arg)) = .crcInit arg :=
  decodeOfEncodeIsIdentity code (.crcInit arg) rfl

theorem decode_crcByte (code : Half) (b : Byte) : decode code (.unit (0x1#4 ++ b)) = .crcByte b :=
  decodeOfEncodeIsIdentity code (.crcByte b) rfl

theorem decode_crcRead (code : Half) (arg : Byte) : decode code (.unit (0x2#4 ++ arg)) = .crcRead arg :=
  decodeOfEncodeIsIdentity code (.crcRead arg) rfl

/-- Settles O13: the operation writes zero and answers nothing. -/
theorem crcInitClearsAccumulator : Obligations.CrcInitClearsAccumulator :=
  fun code arg _ => ⟨decode_crcInit code arg, none, rfl⟩

/-- Settles O14: the operation writes one iteration from the old value. -/
theorem crcByteStepsAccumulator : Obligations.CrcByteStepsAccumulator :=
  fun code b _ => ⟨decode_crcByte code b, rfl, none, rfl⟩

/-- Settles O15: the operation answers and writes nothing. -/
theorem crcReadReturnsAccumulator : Obligations.CrcReadReturnsAccumulator :=
  fun code arg _ => ⟨decode_crcRead code arg, none, rfl⟩

/-! ### Streams -/

/-- An operation that is no `CRC.INIT` iterates over the byte it feeds, if it feeds one (40_crc8.md R83, 10_state.md R34). -/
theorem exec_crcAcc {i : Instr} {s t : State} (h : exec i s = .next t) (hi : isCrcInit i = false) :
    t.crcAcc = (fedByte i).toList.foldl (crcStep s.params.crcTable) s.crcAcc := by
  cases hb : fedByte i with
  | none => exact onlyInitAndByteWriteAccumulator i s t h hi hb
  | some b =>
    cases i
    case crcByte =>
      cases hb
      cases h
      rfl
    all_goals cases hb

/-- A run performs its first word's operation, which never stops, and goes on (70_reset_and_hazards.md R170). -/
theorem runStream_cons_exec (w : PortWord) (ws : List PortWord) (s : State) :
    ∃ t, exec (decode s.params.ctlResetCode w) { s with ops := [] } = .next t ∧
      runStream (w :: ws) s = (t.out :: (runStream ws t).1, (runStream ws t).2) := by
  obtain ⟨u, r, tag, -, he⟩ := exec_writes (decode s.params.ctlResetCode w) { s with ops := [] }
  exact ⟨_, he, runStream_cons rfl he ws⟩

/-- A run of two streams is the run of the second from where the first ends. -/
theorem runStream_append (ws vs : List PortWord) (s : State) :
    runStream (ws ++ vs) s =
      ((runStream ws s).1 ++ (runStream vs (runStream ws s).2).1, (runStream vs (runStream ws s).2).2) := by
  induction ws generalizing s with
  | nil => rfl
  | cons w ws ih =>
    obtain ⟨t, he, hrun⟩ := runStream_cons_exec w ws s
    rw [List.cons_append, runStream_cons rfl he, ih, hrun]
    rfl

/-- The bytes a stream feeds are its first word's, if that feeds one, and those of the rest. -/
theorem bytesFed_cons (code : Half) (w : PortWord) (ws : List PortWord) :
    bytesFed code (w :: ws) = (fedByte (decode code w)).toList ++ bytesFed code ws := by
  unfold bytesFed
  rw [List.filterMap_cons]
  cases fedByte (decode code w) <;> rfl

/-- A run without `CRC.INIT` iterates over the bytes it feeds (40_crc8.md R85). -/
theorem runStream_crcAcc (ws : List PortWord) (s : State)
    (hws : ∀ w ∈ ws, isCrcInit (decode s.params.ctlResetCode w) = false) :
    (runStream ws s).2.crcAcc =
      (bytesFed s.params.ctlResetCode ws).foldl (crcStep s.params.crcTable) s.crcAcc := by
  induction ws generalizing s with
  | nil => rfl
  | cons w ws ih =>
    obtain ⟨hw, hws⟩ := List.forall_mem_cons.mp hws
    obtain ⟨t, he, hrun⟩ := runStream_cons_exec w ws s
    obtain ⟨-, -, hparams, -⟩ := identityAndParametersNeverChange _ _ _ he
    have hsame : t.params = s.params := hparams
    have hrest := ih t (hsame.symm ▸ hws)
    rw [hsame, exec_crcAcc he hw] at hrest
    rw [hrun, bytesFed_cons, List.foldl_append]
    exact hrest

/-- Settles O22: from zero, the words up to `CRC.READ` iterate over their bytes, and `CRC.READ` answers the accumulator and
keeps it. -/
theorem checksumStreamSurvivesInterleaving : Obligations.ChecksumStreamSurvivesInterleaving := by
  intro s ws a r hws
  rw [runStream_cons (decode_crcInit _ a) rfl, runStream_append, runStream_cons (decode_crcRead _ r) rfl]
  have hacc := runStream_crcAcc ws (({ s with ops := [] }.setCrcAcc 0x00).answer .none) hws
  refine ⟨?_, hacc⟩
  rw [List.getLast?_cons, runStream, List.getLast?_concat]
  exact congrArg (fun acc => some (Result.bytes .unit [acc])) hacc

end Sys2Proof.Machine
end

section
/-! The obligations of spec/41_rom_code.md: the ROM code, the operation that reads it, and that no other operation shows the
identity where a data poll returns the placeholder. -/

namespace Sys2Proof.Machine

/-! ### The ROM code -/

/-- The bytes of a serial number in stored order, written out (10_state.md R15). -/
theorem serial_toList (ser : Serial) : ser.toList = [ser[0], ser[1], ser[2], ser[3], ser[4], ser[5]] := by
  obtain ⟨⟨bytes⟩, hsize⟩ := ser
  match bytes, hsize with
  | [_, _, _, _, _, _], _ => rfl

/-- The ROM code byte by byte: checksum of family then serial, serial, family (41_rom_code.md R87). -/
theorem romOf_eq (t : CrcTable) (f : Byte) (ser : Serial) :
    romOf t f ser = [crc8 t [f, ser[0], ser[1], ser[2], ser[3], ser[4], ser[5]],
      ser[0], ser[1], ser[2], ser[3], ser[4], ser[5], f] := by
  rw [romOf, serial_toList]
  rfl

/-- Settles O25: the serial number is the middle, and the checksum of the seven bytes makes them self-checked. -/
theorem romCodeValidates : Obligations.RomCodeValidates := by
  intro t f ser
  refine ⟨crc8 t (f :: ser.toList), ser.toList, rfl, ser.length_toList, ?_, rfl, fun ht => ?_⟩
  · rw [romOf_eq]
    rfl
  · exact checksumOfSelfCheckedIsZero t (f :: ser.toList) ht

/-- Settles O26: the counterexample of 41_rom_code.md R90, whose first byte is 0xA2 where the tail's checksum is 0x29. -/
theorem tailOrderChecksumIsNoLaw : Obligations.TailOrderChecksumIsNoLaw := by
  refine ⟨0x02, #v[0x1C, 0xB8, 0x01, 0x00, 0x00, 0x00], ?_⟩
  have hrom : romOf dowTable 0x02 #v[0x1C, 0xB8, 0x01, 0x00, 0x00, 0x00] =
      [0xA2, 0x1C, 0xB8, 0x01, 0x00, 0x00, 0x00, 0x02] := by decide
  have htail : crc8 dowTable [0x1C, 0xB8, 0x01, 0x00, 0x00, 0x00, 0x02] = 0x29 := by decide
  rw [hrom, List.head?_cons, List.tail_cons, htail]
  decide

/-! ### The operation of unit ROM -/

/-- The word of `ROM.READ`, written with `unit` and `op` as one field of four bits (30_encoding.md R58). -/
theorem decode_romRead (code : Half) (arg : Byte) : decode code (.unit (0x4#4 ++ arg)) = .romRead arg :=
  decodeOfEncodeIsIdentity code (.romRead arg) rfl

/-- Settles O24: the operation answers the ROM code and writes nothing. -/
theorem romReadReturnsRomCode : Obligations.RomReadReturnsRomCode := by
  refine fun code arg s => ⟨decode_romRead code arg, none, ?_⟩
  rw [← romOf_eq]
  rfl

/-! ### What depends on the identity -/

/-- The state with another identity (10_state.md R15). -/
def State.withIdentity (s : State) (f : Byte) (ser : Serial) : State := { s with family := f, serial := ser }

/-- A data poll returns the placeholder where the parameter says so (43_command_shell.md R139). -/
theorem payload_of_placeholder {s : State} (hp : s.params.payloadMode = .placeholder) : payload s = placeholderPayload := by
  unfold payload
  rw [hp]

/-- The placeholder is the same for every identity. -/
theorem payload_withIdentity {s : State} (f : Byte) (ser : Serial) (hp : s.params.payloadMode = .placeholder) :
    payload (s.withIdentity f ser) = payload s := by
  rw [payload_of_placeholder hp]
  exact payload_of_placeholder hp

/-- A mode slot's write neither reads nor writes the identity. -/
theorem State.retain_withIdentity (s : State) (f : Byte) (ser : Serial) (v : StatusReg) :
    (s.withIdentity f ser).retain v = (s.retain v).withIdentity f ser := by
  unfold State.retain
  exact (apply_ite (State.withIdentity · f ser) (s.params.retainModeSlots = true) (s.setSr v) s).symm

/-- Another identity goes through a data poll as it is, if the payload is the placeholder. -/
theorem exec_pollData_withIdentity {s t : State} (f : Byte) (ser : Serial) (hp : s.params.payloadMode = .placeholder)
    (h : exec .pollData s = .next t) : exec .pollData (s.withIdentity f ser) = .next (t.withIdentity f ser) := by
  obtain ⟨hd, rfl⟩ | ⟨hd, rfl⟩ := exec_pollData_cases h
  · exact exec_pollData_of_noData hd
  · rw [← payload_withIdentity f ser hp]
    exact exec_pollData_of_hasData hd

/-- With the placeholder payload, no operation but `ROM.READ` reads the identity: another identity goes through it as it is,
and its answer is the same (41_rom_code.md R95). -/
theorem exec_withIdentity {i : Instr} {s t : State} (f : Byte) (ser : Serial)
    (hp : s.params.payloadMode = .placeholder) (hi : isRomRead i = false) (h : exec i s = .next t) :
    exec i (s.withIdentity f ser) = .next (t.withIdentity f ser) := by
  cases i
  case romRead => cases hi
  case modeSpeed | modeSpud | modePdsrc | modeLowt | modeRect =>
    cases h
    exact congrArg (fun u : State => Host.Outcome.next (u.answer .ack)) (s.retain_withIdentity f ser _)
  case pollData => exact exec_pollData_withIdentity f ser hp h
  all_goals
    cases h
    rfl

/-- Two runs of a stream without `ROM.READ` that differ in the identity return the same results and still differ in nothing
else at the end. -/
theorem runStream_withIdentity (ws : List PortWord) (s : State) (f : Byte) (ser : Serial)
    (hp : s.params.payloadMode = .placeholder)
    (hws : ∀ w ∈ ws, isRomRead (decode s.params.ctlResetCode w) = false) :
    runStream ws (s.withIdentity f ser) = ((runStream ws s).1, (runStream ws s).2.withIdentity f ser) := by
  induction ws generalizing s with
  | nil => rfl
  | cons w ws ih =>
    obtain ⟨hw, hws⟩ := List.forall_mem_cons.mp hws
    obtain ⟨t, he, hrun⟩ := runStream_cons_exec w ws s
    obtain ⟨-, -, hparams, -⟩ := identityAndParametersNeverChange _ _ _ he
    have hsame : t.params = s.params := hparams
    have hrest := ih t (hsame.symm ▸ hp) (hsame.symm ▸ hws)
    have hexec := exec_withIdentity (s := { s with ops := [] }) f ser hp hw he
    rw [hrun, runStream_cons rfl hexec, hrest]
    rfl

/-- Settles O57: the two runs go side by side and return the same results. -/
theorem identityLeavesOnlyByRomRead : Obligations.IdentityLeavesOnlyByRomRead :=
  fun s ws f ser hp hws => (congrArg Prod.fst (runStream_withIdentity ws s f ser hp hws) :)

end Sys2Proof.Machine
end

section
/-! The obligations of spec/42_status_register.md: the report, the operations of unit SR, the reserved unit codes, and who
writes the register. -/

namespace Sys2Proof.Machine

/-! ### The report -/

/-- Byte 0 of the report, the two flags of the register (30_encoding.md R67). -/
def flagsByte (spue spce : Bool) : Byte := (b2n spce <<< 2) + b2n spue

/-- The report byte by byte (42_status_register.md R99). -/
theorem serialize_eq (v : StatusReg) :
    serialize v = [flagsByte v.spue v.spce, v.speed, v.spud, 0x00, v.pdsrc, v.lowt, v.rect, 0x00] := rfl

/-- The two terms have no common bit, so the sum does not carry (42_status_register.md R99). -/
theorem flagsByte_eq_or :
    ∀ spue spce : Bool, flagsByte spue spce = (if spce then 0x04 else 0x00) ||| (if spue then 0x01 else 0x00) := by
  decide

theorem flagsByte_mem : ∀ spue spce : Bool, flagsByte spue spce ∈ [0x00#8, 0x01#8, 0x04#8, 0x05#8] := by decide

theorem flagsByte_bit_zero : ∀ spue spce : Bool, (flagsByte spue spce).getLsbD 0 = spue := by decide

theorem flagsByte_bit_two : ∀ spue spce : Bool, (flagsByte spue spce).getLsbD 2 = spce := by decide

/-- The register that a report of eight bytes stands for (42_status_register.md R102). -/
def readReport : List Byte → Option StatusReg
  | [b0, speed, spud, _, pdsrc, lowt, rect, _] =>
    some { spue := b0.getLsbD 0, spce := b0.getLsbD 2, speed, spud, pdsrc, lowt, rect }
  | _ => none

/-- The register is read back from its report. -/
theorem readReport_serialize (v : StatusReg) : readReport (serialize v) = some v := by
  rw [serialize_eq, readReport, flagsByte_bit_zero, flagsByte_bit_two]

theorem serialize_injective : Function.Injective serialize := by
  intro u v h
  have hread : some u = some v := by rw [← readReport_serialize u, h, readReport_serialize v]
  exact Option.some.inj hread

/-- Settles O30: the flags are bits 0 and 2 of byte 0, and what is read back from one report is one register. -/
theorem reportLosesNothing : Obligations.ReportLosesNothing :=
  ⟨fun v => ⟨flagsByte v.spue v.spce, serialize_eq v, flagsByte_bit_zero _ _, flagsByte_bit_two _ _⟩,
    fun _ _ h => serialize_injective h⟩

/-! ### The operations of unit SR and the reserved unit codes -/

/-- The four words of unit SR, written with `unit` and `op` as one field of four bits (30_encoding.md R59). -/
theorem decode_srReset (code : Half) (arg : Byte) : decode code (.unit (0x8#4 ++ arg)) = .srReset arg :=
  decodeOfEncodeIsIdentity code (.srReset arg) rfl

theorem decode_srSpue (code : Half) (ign : BitVec 7) (e : Bool) :
    decode code (.unit (0x9#4 ++ packFlag ign e)) = .srSpue ign e :=
  decodeOfEncodeIsIdentity code (.srSpue ign e) rfl

theorem decode_srSpce (code : Half) (ign : BitVec 7) (e : Bool) :
    decode code (.unit (0xA#4 ++ packFlag ign e)) = .srSpce ign e :=
  decodeOfEncodeIsIdentity code (.srSpce ign e) rfl

theorem decode_srSer (code : Half) (arg : Byte) : decode code (.unit (0xB#4 ++ arg)) = .srSer arg :=
  decodeOfEncodeIsIdentity code (.srSer arg) rfl

/-- A flag operation's word is the same with its operand byte in parts (30_encoding.md R59). -/
theorem append_packFlag (op : BitVec 4) (ign : BitVec 7) (e : Bool) :
    op ++ packFlag ign e = op ++ ign ++ BitVec.ofBool e :=
  (BitVec.append_assoc (x₁ := op) (x₂ := ign) (x₃ := BitVec.ofBool e)).symm

/-- Settles O27: a reset writes the baseline and `READY`. -/
theorem srResetSetsBaseline : Obligations.SrResetSetsBaseline :=
  fun code arg _ => ⟨decode_srReset code arg, none, rfl⟩

/-- Settles O28: the flag is the last bit of the word, and each operation writes its own. -/
theorem flagOperationsWriteOneFlag : Obligations.FlagOperationsWriteOneFlag := by
  intro code ign e s
  refine ⟨?_, ?_, ⟨none, rfl⟩, ⟨none, rfl⟩⟩
  · rw [← append_packFlag]
    exact decode_srSpue code ign e
  · rw [← append_packFlag]
    exact decode_srSpce code ign e

/-- Settles O29: the operation answers the report, whose byte 0 is the sum and so the union of the two flags' bits. -/
theorem srSerReturnsReport : Obligations.SrSerReturnsReport := by
  refine fun code arg s => ⟨decode_srSer code arg, none, ?_⟩
  rw [← flagsByte_eq_or]
  rfl

/-- Settles O31: each word is that of its row, which for unit ROM asks for `op ≠ 0`, and each row answers nothing. -/
theorem reservedUnitCodesDoNothing : Obligations.ReservedUnitCodesDoNothing :=
  fun code op arg _ =>
    ⟨decodeOfEncodeIsIdentity code (.uRsvdCrc arg) rfl,
      fun hop => decodeOfEncodeIsIdentity code (.uRsvdRom op arg) (bne_iff_ne.mpr hop),
      decodeOfEncodeIsIdentity code (.uRsvdUnit op arg) rfl, ⟨none, rfl⟩, ⟨none, rfl⟩, ⟨none, rfl⟩⟩

/-! ### Who writes the register -/

/-- A mode slot's write changes the register only where the slots are retained (43_command_shell.md R130). -/
theorem State.retained_of_retain_sr_ne {s : State} {v : StatusReg} (h : (s.retain v).sr ≠ s.sr) :
    s.params.retainModeSlots = true := by
  by_contra hp
  exact h (by rw [State.retain_sr, if_neg hp])

/-- Settles O49: of the writes, the resets', the flags' and the slots' alone touch `SR`. -/
theorem onlyNamedOperationsWriteStatus : Obligations.OnlyNamedOperationsWriteStatus := by
  intro i s t h hne
  obtain ⟨u, r, tag, hw, rfl⟩ := exec_cases h
  cases hw with
  | reset hi =>
    obtain hsr | ⟨x, hctl⟩ := hi
    · exact .inl hsr
    · exact .inr (.inr (.inl ⟨x, .inl hctl⟩))
  | spue e hi =>
    obtain ⟨g, hsr⟩ | ⟨x, hmode⟩ := hi
    · exact .inr (.inl ⟨g, e, .inl hsr⟩)
    · exact .inr (.inr (.inl ⟨x, .inr (.inl hmode)⟩))
  | spce e hi =>
    obtain ⟨g, hsr⟩ | ⟨x, hmode⟩ := hi
    · exact .inr (.inl ⟨g, e, .inr hsr⟩)
    · exact .inr (.inr (.inl ⟨x, .inr (.inr hmode)⟩))
  | slot v hi => exact .inr (.inr (.inr ⟨State.retained_of_retain_sr_ne hne, hi⟩))
  | accumulator | search | data | nothing => exact absurd rfl hne

/-! ### The report of a status poll -/

/-- A status poll while a search is pending and the block is ready (43_command_shell.md R138). -/
theorem exec_pollStatus_of_hasData {s : State} (hd : pollHasData s = true) :
    exec .pollStatus s = .next (s.answer (.bytes .status (serialize s.sr ++ trailer))) := by
  simp [exec, execPollStatus, hd]

/-- A status poll otherwise (43_command_shell.md R138). -/
theorem exec_pollStatus_of_noData {s : State} (hd : pollHasData s = false) :
    exec .pollStatus s = .next (s.answer .none) := by
  simp [exec, execPollStatus, hd]

/-- Where the slots are not retained, only the flags of the register can differ from the baseline
(42_status_register.md R103). -/
theorem serialize_of_unretained {s : State} (hs : BlockInv s) (hp : s.params.retainModeSlots = false) :
    serialize s.sr = [flagsByte s.sr.spue s.sr.spce, 0x00, 0x20, 0x00, 0x05, 0x04, 0x04, 0x00] := by
  obtain ⟨-, hslots⟩ := hs
  obtain ⟨hspeed, hspud, hpdsrc, hlowt, hrect⟩ := hslots hp
  rw [serialize_eq, hspeed, hspud, hpdsrc, hlowt, hrect]

/-- Settles O55: a poll with data returns the report of the two flags over the baseline, and the trailer. -/
theorem unretainedReportIsOneOfFour : Obligations.UnretainedReportIsOneOfFour := by
  intro s t hs hp h
  cases hd : pollHasData s
  · rw [exec_pollStatus_of_noData hd] at h
    cases h
    exact .inl rfl
  · rw [exec_pollStatus_of_hasData hd, serialize_of_unretained hs hp] at h
    cases h
    exact .inr ⟨_, flagsByte_mem s.sr.spue s.sr.spce, rfl⟩

end Sys2Proof.Machine
end

section
/-! The obligations of spec/43_command_shell.md: the mask that selects a communication request, what each request does
and that it is acknowledged, the two polls, and the protocol table. -/

namespace Sys2Proof.Machine

/-! ### The mask that selects a communication request -/

/-- The code of a tag is its place in the priority order, with `none` last (30_encoding.md R71). -/
theorem tags_getElem?_tagCode (t : CommTag) :
    (commMasks.map Prod.fst ++ [CommTag.none])[(tagCode t).toNat]? = some t := by
  cases t <;> rfl

theorem tagCode_injective : Function.Injective tagCode := by
  intro t u h
  have htag : some t = some u := by rw [← tags_getElem?_tagCode t, h, tags_getElem?_tagCode u]
  exact Option.some.inj htag

/-- A value that is selected at the place of a tag has that tag (30_encoding.md R63). -/
theorem commTag_of_selected {t : CommTag} {value : Half} (h : Spec.Selected (tagCode t).toNat value) :
    commTag value = t := by
  have hcode := (commTagIsFirstMatchingMask value _ (tagCode t).isLt).mp h
  exact tagCode_injective (hcode.trans (BitVec.ofNat_toNat _ _))

/-- No mask has all the bits of a mask before it (43_command_shell.md R111). -/
theorem maskOrder_pairwise : Spec.maskOrder.Pairwise fun m m' => m' &&& m ≠ m := by decide

/-- A mask as a value is selected at its own place. -/
theorem selected_mask {k : Nat} {m : Half} (hm : m ∈ Spec.maskOrder[k]?) : Spec.Selected k m := by
  obtain ⟨hk, rfl⟩ := List.getElem?_eq_some_iff.mp hm
  refine ⟨fun m' hm' => ?_, fun m' hm' => ?_⟩
  · rw [Option.mem_unique hm' hm, BitVec.and_self]
  · obtain ⟨j, hj, rfl⟩ := List.mem_take_iff_getElem.mp hm'
    exact List.pairwise_iff_getElem.mp maskOrder_pairwise j k _ hk (by omega)

/-- Settles O7: no mask matches a later mask's value, so each is selected at its own place. -/
theorem everyMaskSelectsItsOwnTag : Obligations.EveryMaskSelectsItsOwnTag := by
  intro k hk m hm
  exact (commTagIsFirstMatchingMask m k (by omega)).mp (selected_mask hm)

/-- The communication request of a tag (30_encoding.md R63). -/
def commInstr : CommTag → Half → Half → Instr
  | .searchAccess => .commSearchAccess
  | .readRedirect => .commReadRedirect
  | .readCrcProt => .commReadCrcProt
  | .writeEprom => .commWriteEprom
  | .writeSram => .commWriteSram
  | .setPath => .commSetPath
  | .doRelease => .commDoRelease
  | .readStraight => .commReadStraight
  | .blockIo => .commBlockIo
  | .matchAccess => .commMatchAccess
  | .byteIo => .commByteIo
  | .oneWireReset => .commOneWireReset
  | .pulse => .commPulse
  | .setDuration => .commSetDuration
  | .errorEscape => .commErrorEscape
  | .none => .commNone

/-- A word of class 1 selects the request of its value's tag (30_encoding.md R63). -/
theorem decodeComm_eq (value index : Half) : decodeComm value index = commInstr (commTag value) value index := by
  unfold decodeComm
  cases commTag value <;> rfl

/-- A value that is selected at the place of a tag selects the request of that tag. -/
theorem decode_commWord_of_selected (code value index : Half) (t : CommTag)
    (h : Spec.Selected (tagCode t).toNat value) :
    decode code (Spec.commWord value index) = commInstr t value index := by
  have hword : decode code (Spec.commWord value index) = decodeComm value index :=
    decode_packRequest code 1#8 value index
  rw [hword, decodeComm_eq, commTag_of_selected h]

/-! ### What a request does -/

/-- The communication requests other than the search drive their tag and change no state
(43_command_shell.md R113 to R127). -/
theorem onlyAcknowledges_commInstr {t : CommTag} (ht : t ≠ .searchAccess) (value index : Half) :
    Spec.OnlyAcknowledges (tagCode t) (commInstr t value index) := by
  cases t
  case searchAccess => exact absurd rfl ht
  all_goals exact fun _ => rfl

/-- Settles O35: each place is the code of the tag on `cmd_tag`. -/
theorem commPriorities2To8OnlyAcknowledge : Obligations.CommPriorities2To8OnlyAcknowledge := by
  intro code v i
  have sel := decode_commWord_of_selected code v i
  have ack (t : CommTag) (ht : t ≠ .searchAccess) := onlyAcknowledges_commInstr ht v i
  exact ⟨sel .readRedirect, ack .readRedirect nofun, sel .readCrcProt, ack .readCrcProt nofun,
    sel .writeEprom, ack .writeEprom nofun, sel .writeSram, ack .writeSram nofun, sel .setPath, ack .setPath nofun,
    sel .doRelease, ack .doRelease nofun, sel .readStraight, ack .readStraight nofun⟩

/-- Settles O36: likewise; at place 15, that of `NONE`, there is no mask. -/
theorem commPriorities9To16OnlyAcknowledge : Obligations.CommPriorities9To16OnlyAcknowledge := by
  intro code v i
  have sel := decode_commWord_of_selected code v i
  have ack (t : CommTag) (ht : t ≠ .searchAccess) := onlyAcknowledges_commInstr ht v i
  exact ⟨sel .blockIo, ack .blockIo nofun, sel .matchAccess, ack .matchAccess nofun, sel .byteIo, ack .byteIo nofun,
    sel .oneWireReset, ack .oneWireReset nofun, sel .pulse, ack .pulse nofun, sel .setDuration, ack .setDuration nofun,
    sel .errorEscape, ack .errorEscape nofun, sel .none, ack .none nofun⟩

theorem searchFlag_of_ready {s : State} (h : s.ready = true) : searchFlag s = true := by
  simp [searchFlag, h]

theorem searchFlag_of_not_ready {s : State} (h : s.ready = false) : searchFlag s = s.searchPending := by
  simp [searchFlag, h]

/-- The search request writes `SEARCHPENDING` and drives its tag (43_command_shell.md R112). -/
theorem exec_commSearchAccess (value index : Half) (s : State) : exec (.commSearchAccess value index) s =
    .next { s with searchPending := searchFlag s, out := .ack, cmdTag := some 0 } := rfl

/-- Settles O34: no mask is before that of the search, and the flag it writes is set or kept. -/
theorem searchSetsPendingOnlyWhenReady : Obligations.SearchSetsPendingOnlyWhenReady := by
  intro code value index s
  refine ⟨fun hm => ?_, fun hr => ?_, fun hr => ?_⟩
  · exact decode_commWord_of_selected code value index .searchAccess
      ⟨by simpa [tagCode, Spec.maskOrder] using hm, nofun⟩
  · rw [exec_commSearchAccess, searchFlag_of_ready hr]
  · rw [exec_commSearchAccess, searchFlag_of_not_ready hr]

/-- Settles O32: `SR.RESET` with an acknowledgement. -/
theorem controlResetSetsBaseline : Obligations.ControlResetSetsBaseline :=
  fun code index _ => ⟨decodeOfEncodeIsIdentity code (.ctlReset index) rfl, none, rfl⟩

/-- Settles O33: the row's condition is that the value is not the reset code. -/
theorem otherControlOnlyAcknowledges : Obligations.OtherControlOnlyAcknowledges :=
  fun code value index _ =>
    ⟨fun hv => decodeOfEncodeIsIdentity code (.ctlOther value index) (bne_iff_ne.mpr hv), none, rfl⟩

/-- A comparison over all the bits of a word is one of its number (43_command_shell.md R128, R129). -/
theorem pulseFlag_eq (index : Half) : pulseFlag index = decide (index.toNat = 2) :=
  decide_eq_decide.mpr BitVec.toNat_eq

theorem speedChangeFlag_eq (index : Half) : speedChangeFlag index = decide (index.toNat = 1) :=
  decide_eq_decide.mpr BitVec.toNat_eq

/-- Settles O37: slot 0 writes the comparison of its index into the one flag. -/
theorem pulseEnableWritesSpue : Obligations.PulseEnableWritesSpue :=
  fun code index _ => ⟨decodeOfEncodeIsIdentity code (.modePulseEn index) rfl, none, by rw [← pulseFlag_eq]; rfl⟩

/-- Settles O38: slot 1 writes the comparison of its index into the one flag. -/
theorem speedChangeEnableWritesSpce : Obligations.SpeedChangeEnableWritesSpce :=
  fun code index _ =>
    ⟨decodeOfEncodeIsIdentity code (.modeSpeedChangeEn index) rfl, none, by rw [← speedChangeFlag_eq]; rfl⟩

/-- What a slot stores is the index cut to a byte (30_encoding.md R66 f). -/
theorem lowByte_eq (index : Half) : lowByte index = index.setWidth 8 :=
  (BitVec.setWidth_eq_extractLsb' (by decide)).symm

theorem State.retain_of_retained {s : State} (h : s.params.retainModeSlots = true) (v : StatusReg) :
    s.retain v = s.setSr v := if_pos h

theorem State.retain_of_unretained {s : State} (h : s.params.retainModeSlots = false) (v : StatusReg) :
    s.retain v = s := if_neg (by simp [h])

/-- A retained slot's write and its acknowledgement (43_command_shell.md R130). -/
theorem retain_ack_of_retained {s : State} (h : s.params.retainModeSlots = true) (v : StatusReg) :
    (.next ((s.retain v).answer .ack) : Host.Outcome State Fault Refusal) =
      .next { s with sr := v, out := .ack, cmdTag := none } := by
  rw [State.retain_of_retained h]
  rfl

/-- A slot that is not retained is only acknowledged (43_command_shell.md R130). -/
theorem retain_ack_of_unretained {s : State} (h : s.params.retainModeSlots = false) (v : StatusReg) :
    (.next ((s.retain v).answer .ack) : Host.Outcome State Fault Refusal) =
      .next { s with out := .ack, cmdTag := none } := by
  rw [State.retain_of_unretained h]
  rfl

/-- Settles O39: each slot is the retained write of its own field. -/
theorem retainableSlotsStoreLowByteOrNothing : Obligations.RetainableSlotsStoreLowByteOrNothing := by
  intro code index s
  refine ⟨decodeOfEncodeIsIdentity code (.modeSpeed index) rfl, decodeOfEncodeIsIdentity code (.modeSpud index) rfl,
    decodeOfEncodeIsIdentity code (.modePdsrc index) rfl, decodeOfEncodeIsIdentity code (.modeLowt index) rfl,
    decodeOfEncodeIsIdentity code (.modeRect index) rfl, fun h => ⟨none, ?_⟩, fun h => ⟨none, ?_⟩⟩
  · rw [← lowByte_eq]
    have store := retain_ack_of_retained h
    exact ⟨store _, store _, store _, store _, store _⟩
  · have skip := retain_ack_of_unretained h
    exact ⟨skip _, skip _, skip _, skip _, skip _⟩

/-- Settles O40: the row of slot 5 has no condition, that of the others asks for a value above the slots. -/
theorem slotFiveAndOtherModesOnlyAcknowledge : Obligations.SlotFiveAndOtherModesOnlyAcknowledge :=
  fun code value index _ =>
    ⟨decodeOfEncodeIsIdentity code (.modePpd index) rfl,
      fun hv => decodeOfEncodeIsIdentity code (.modeOther value index) (decide_eq_true hv), ⟨none, rfl⟩, ⟨none, rfl⟩⟩

/-- Settles O41: the row's condition is that the class is reserved, and it answers nothing. -/
theorem reservedClassIsNotSelected : Obligations.ReservedClassIsNotSelected :=
  fun code cls value index _ =>
    ⟨fun hc => decodeOfEncodeIsIdentity code (.reqRsvd cls value index) (decide_eq_true hc), none, rfl⟩

/-! ### Every defined request is acknowledged -/

/-- The operation ends with an empty acknowledgement from every state (43_command_shell.md R106). -/
def Acknowledged (i : Instr) : Prop := ∀ s : State, ∃ t, exec i s = .next t ∧ t.out = .ack

theorem decodeComm_acknowledged (value index : Half) : Acknowledged (decodeComm value index) := by
  intro s
  rw [decodeComm_eq]
  cases commTag value <;> exact ⟨_, rfl, rfl⟩

theorem decodeMode_acknowledged (value index : Half) : Acknowledged (decodeMode value index) := by
  intro s
  unfold decodeMode
  split_ifs <;> exact ⟨_, rfl, rfl⟩

/-- Every request of a class that is not reserved is acknowledged. -/
theorem decodeRequest_acknowledged (code value index : Half) {cls : Byte} (hc : cls.toNat < 3) :
    Acknowledged (decodeRequest code cls value index) := by
  unfold decodeRequest
  split_ifs with h0 hv h1 h2
  · exact fun _ => ⟨_, rfl, rfl⟩
  · exact fun _ => ⟨_, rfl, rfl⟩
  · exact decodeComm_acknowledged value index
  · exact decodeMode_acknowledged value index
  · exact absurd ((reservedClass_iff cls).mpr ⟨h0, h1, h2⟩) (Nat.not_le_of_lt hc)

/-- Settles O42: the step performs the request, which is acknowledged and leaves the words still to come. -/
theorem everyDefinedRequestIsAcknowledged : Obligations.EveryDefinedRequestIsAcknowledged := by
  intro s cls value index rest hops hc
  have hword : decode s.params.ctlResetCode (.control (cls ++ value ++ index)) = _ :=
    decode_packRequest _ cls value index
  obtain ⟨t, hexec, hout⟩ := decodeRequest_acknowledged s.params.ctlResetCode value index hc { s with ops := rest }
  obtain ⟨-, -, -, hrest⟩ := identityAndParametersNeverChange _ _ _ hexec
  exact ⟨t, by rw [step_of_ops_cons hops, hword, hexec], hout, hrest⟩

/-! ### The polls -/

/-- The polls have data exactly while `READY` and `SEARCHPENDING` (43_command_shell.md R138, R139). -/
theorem pollHasData_iff (s : State) : pollHasData s = true ↔ s.ready = true ∧ s.searchPending = true :=
  Bool.and_eq_true_iff

theorem pollHasData_eq_false {s : State} (h : ¬(s.ready = true ∧ s.searchPending = true)) : pollHasData s = false :=
  Bool.eq_false_iff.mpr (mt (pollHasData_iff s).mp h)

/-- The payload by the parameter's mode (43_command_shell.md R139). -/
theorem payload_eq (s : State) : payload s =
    if s.params.payloadMode = .rom then romOf s.params.crcTable s.family s.serial else placeholderPayload := by
  unfold payload
  cases s.params.payloadMode <;> rfl

/-- What a status poll can do: it answers nothing without data and 17 bytes with data (43_command_shell.md R138). -/
theorem exec_pollStatus_cases {s t : State} (h : exec .pollStatus s = .next t) :
    (pollHasData s = false ∧ t.out = .none) ∨
    (pollHasData s = true ∧ ∃ d, t.out = .bytes .status d ∧ d.length = 17) := by
  cases hd : pollHasData s
  · rw [exec_pollStatus_of_noData hd] at h
    cases h
    exact .inl ⟨rfl, rfl⟩
  · rw [exec_pollStatus_of_hasData hd] at h
    cases h
    exact .inr ⟨rfl, _, rfl, rfl⟩

/-- A data poll returns eight bytes in both modes (43_command_shell.md R139, 30_encoding.md R69). -/
theorem payload_length (s : State) : (payload s).length = 8 := by
  unfold payload
  split
  · rfl
  · rw [romOf_eq]
    rfl

/-- Settles O43: with data the answer is the report and the trailer, otherwise nothing. -/
theorem statusPollReturnsReportWhilePending : Obligations.StatusPollReturnsReportWhilePending := by
  refine fun code s => ⟨rfl, fun h => ⟨none, ?_⟩, fun h => ⟨none, exec_pollStatus_of_noData (pollHasData_eq_false h)⟩⟩
  rw [exec_pollStatus_of_hasData ((pollHasData_iff s).mpr h), serialize_eq, flagsByte_eq_or]
  rfl

/-- Settles O44: with data the answer is the payload and the search is consumed, otherwise nothing. -/
theorem dataPollReturnsPayloadAndConsumesSearch : Obligations.DataPollReturnsPayloadAndConsumesSearch := by
  refine fun code s => ⟨rfl, fun h => ⟨none, ?_⟩, fun h => ⟨none, exec_pollData_of_noData (pollHasData_eq_false h)⟩⟩
  rw [exec_pollData_of_hasData ((pollHasData_iff s).mpr h), payload_eq]
  rfl

/-! ### The protocol table -/

/-- The protocol state of a pair of flags (10_state.md R29). -/
def flagsProtocol (ready pending : Bool) : Protocol :=
  if pending then if ready then .searchPending else .unreachable
  else if ready then .ready else .unready

/-- The protocol state depends on the two flags alone. -/
theorem protocolOf_eq (s : State) : protocolOf s = flagsProtocol s.ready s.searchPending := by
  unfold protocolOf
  cases s.ready <;> cases s.searchPending <;> rfl

/-- A reset's row of the table: `READY` is set, a pending search stays pending (43_command_shell.md R141). -/
theorem flagsProtocol_reset : ∀ r p : Bool, flagsProtocol true p =
    if flagsProtocol r p = .unready ∨ flagsProtocol r p = .ready then .ready else .searchPending := by decide

/-- The search's row of the table (43_command_shell.md R141). -/
theorem flagsProtocol_search : ∀ r p : Bool, flagsProtocol r (r || p) =
    if flagsProtocol r p = .ready then .searchPending else flagsProtocol r p := by decide

/-- The polls have data in one protocol state. -/
theorem protocolOf_eq_searchPending_iff (s : State) : protocolOf s = .searchPending ↔ pollHasData s = true := by
  rw [protocolOf_eq, pollHasData]
  cases s.ready <;> cases s.searchPending <;> decide

/-- Both resets leave `SEARCHPENDING` as it is (90_conflicts.md C3). -/
theorem exec_reset_searchPending {i : Instr} {s t : State} (hi : (∃ a, i = .srReset a) ∨ (∃ x, i = .ctlReset x))
    (h : exec i s = .next t) : t.searchPending = s.searchPending := by
  obtain ⟨a, rfl⟩ | ⟨x, rfl⟩ := hi <;> (cases h; rfl)

/-- An operation that is no reset, no search and no data poll keeps both flags, and so the protocol state. -/
theorem exec_protocolOf_of_other {i : Instr} {s t : State} (h : exec i s = .next t)
    (hi : ∀ a x v, i ≠ .srReset a ∧ i ≠ .ctlReset x ∧ i ≠ .commSearchAccess v x) (hdata : i ≠ .pollData) :
    protocolOf t = protocolOf s := by
  have hready : t.ready = s.ready := by
    obtain ⟨⟨a, rfl⟩ | ⟨x, rfl⟩, -⟩ | hkeep := exec_ready_cases h
    · exact absurd rfl (hi a 0 0).1
    · exact absurd rfl (hi 0 x 0).2.1
    · exact hkeep
  have hpending : t.searchPending = s.searchPending := by
    obtain ⟨⟨v, x, rfl⟩, -⟩ | ⟨hi', -⟩ | hkeep := exec_searchPending_cases h
    · exact absurd rfl (hi 0 x v).2.2
    · exact absurd hi' hdata
    · exact hkeep
  rw [protocolOf_eq, protocolOf_eq, hready, hpending]

/-- A data poll's row of the table: it consumes a search that is pending while ready (43_command_shell.md R141). -/
theorem exec_pollData_protocolOf {s t : State} (h : exec .pollData s = .next t) :
    protocolOf t = if protocolOf s = .searchPending then .ready else protocolOf s := by
  obtain ⟨hd, rfl⟩ | ⟨hd, rfl⟩ := exec_pollData_cases h
  · rw [if_neg (by simp [protocolOf_eq_searchPending_iff, hd])]
    rfl
  · obtain ⟨hready, -⟩ := (pollHasData_iff s).mp hd
    rw [if_pos ((protocolOf_eq_searchPending_iff s).mpr hd), protocolOf_eq, State.answer_ready,
      State.setSearchPending_ready, hready]
    rfl

/-- Settles O52: a reset and a search follow their rows, a data poll its own, every other operation keeps both flags,
and a poll answers by whether there is data. -/
theorem protocolFollowsTable : Obligations.ProtocolFollowsTable := by
  intro i s t h
  have hiff := protocolOf_eq_searchPending_iff s
  refine ⟨fun hi => ?_, ?_, ?_, exec_protocolOf_of_other h, ?_, ?_, ?_⟩
  · rw [protocolOf_eq t, exec_reset_ready hi h, exec_reset_searchPending hi h, protocolOf_eq s]
    exact flagsProtocol_reset _ _
  · rintro ⟨v, x, rfl⟩
    cases h
    rw [protocolOf_eq, protocolOf_eq s]
    exact flagsProtocol_search _ _
  · rintro rfl
    exact exec_pollData_protocolOf h
  · rintro (rfl | rfl) hp
    · obtain ⟨-, hout⟩ | ⟨hd, -⟩ := exec_pollStatus_cases h
      · exact hout
      · exact absurd (hiff.mpr hd) hp
    · obtain ⟨-, rfl⟩ | ⟨hd, -⟩ := exec_pollData_cases h
      · rfl
      · exact absurd (hiff.mpr hd) hp
  · rintro rfl hp
    obtain ⟨hd, -⟩ | ⟨-, hout⟩ := exec_pollStatus_cases h
    · exact absurd (hiff.mp hp) (Bool.eq_false_iff.mp hd)
    · exact hout
  · rintro rfl hp
    obtain ⟨hd, -⟩ | ⟨-, rfl⟩ := exec_pollData_cases h
    · exact absurd (hiff.mp hp) (Bool.eq_false_iff.mp hd)
    · exact ⟨_, rfl, payload_length s⟩

end Sys2Proof.Machine
end

section
/-! The obligation of spec/60_exceptions.md: the set of exceptions of the block is empty. -/

namespace Sys2Proof.Machine

/-- Every operation answers a next state: its answer added to what its writes make of the state. -/
theorem exec_answers_next (i : Instr) (s : State) : ∃ t, exec i s = .next t := by
  obtain ⟨_, _, _, -, he⟩ := exec_writes i s
  exact ⟨_, he⟩

/-- Every step answers a next state: without a word to come it idles, with one it answers as the word's operation. -/
theorem step_answers_next (s : State) : ∃ t, step s = .next t := by
  cases hops : s.ops with
  | nil => exact ⟨s, step_of_ops_nil hops⟩
  | cons w rest =>
    rw [step_of_ops_cons hops]
    exact exec_answers_next _ _

/-- Settles O46: the operations by the writes they make, a step by the words still to come. -/
theorem noOperationCanStop : Obligations.NoOperationCanStop :=
  ⟨exec_answers_next, step_answers_next⟩

end Sys2Proof.Machine
end

section
/-! The obligations of spec/70_reset_and_hazards.md: power-on, and the run of a stream of words against the steps of the
machine. -/

namespace Sys2Proof.Machine

/-- Settles O10: the column of 10_state.md R33 item by item, in which neither flag of the protocol state is set. -/
theorem powerOnSetsEveryItem : Obligations.PowerOnSetsEveryItem :=
  fun _ _ _ => ⟨rfl, rfl, rfl, rfl, rfl, rfl, rfl⟩

/-! ### The run of a stream and the steps of the machine -/

/-- No operation stops, so no word of a run is left without a result (70_reset_and_hazards.md R170). -/
theorem runStream_length (ws : List PortWord) (s : State) : (runStream ws s).1.length = ws.length := by
  induction ws generalizing s with
  | nil => rfl
  | cons w ws ih =>
    obtain ⟨t, -, hrun⟩ := runStream_cons_exec w ws s
    rw [hrun, List.length_cons, List.length_cons, ih]

/-- The machine that finds the words to come ends where the run of the stream ends: an operation does not look at the words
behind its own and hands them on (20_memory.md R50). -/
theorem core_run_eq_runStream (ws : List PortWord) (s : State) (hs : s.ops = []) :
    Host.Core.run core ws.length { s with ops := ws } = .next (runStream ws s).2 := by
  induction ws generalizing s with
  | nil => exact congrArg (fun l => Host.Outcome.next { s with ops := l }) hs.symm
  | cons w ws ih =>
    obtain ⟨t, he, hrun⟩ := runStream_cons_exec w ws s
    obtain ⟨-, -, -, hops⟩ := identityAndParametersNeverChange _ _ _ he
    have hstep : step { s with ops := w :: ws } = .next { t with ops := ws } :=
      (step_of_ops_cons rfl).trans (exec_ops _ { s with ops := [] } t ws he)
    rw [hrun]
    exact (core_run_succ core ws.length { s with ops := w :: ws } { t with ops := ws } hstep).trans (ih t hops)

/-- Settles O58: the results by their number, the final state by the steps of the machine. -/
theorem runReturnsOneResultForEachWord : Obligations.RunReturnsOneResultForEachWord :=
  fun s ws hs => ⟨runStream_length ws s, core_run_eq_runStream ws s hs⟩

end Sys2Proof.Machine
end
